-- ==== Sys2Proof/Word.lean ====
section
/-! DEFINITION. The two word sizes of the block (00_scope.md R9, R10, R12). -/

namespace Sys2Proof

/-- A command word, a response word, a time or a deadline: 32 bits (00_scope.md R9 NOW_W, R12). -/
abbrev Word := BitVec 32

/-- A message byte, a ROM pattern, a channel id or a rate: 8 bits (00_scope.md R9, R10). -/
abbrev Byte := BitVec 8

end Sys2Proof
end

