-- ==== Sys2Proof/Config.lean ====
section
/-! DEFINITION. What an implementation fixes, and the values the spec leaves open (00_scope.md R9,
92_eei_decisions.md, open parameters). -/

namespace Sys2Proof

/-- The two channel slots, NCH = 2, one for each channel kind (00_scope.md R9, 43_channel_adapter.md R191). -/
inductive Slot where
  /-- slot 0, the toggle channel -/
  | toggle
  /-- slot 1, the continuous-wave channel -/
  | cw
  deriving DecidableEq, Repr

/-- The open parameters that change what a command does (00_scope.md R9). They are fixed for a machine: State carries
them and no step writes them (log entry 6). -/
structure Params where
  /-- MSG_DEPTH: bytes of message store for each channel. -/
  msgDepth : Nat
  /-- NOT_FOUND_CODE: the pattern of a character without a table entry. -/
  notFoundCode : Byte
  deriving DecidableEq, Repr

/-- The defaults of 00_scope.md R9. -/
def Params.default : Params := { msgDepth := 256, notFoundCode := 0x80#8 }

/-- The constraints of 00_scope.md R9 on the open parameters. -/
abbrev Params.Legal (p : Params) : Prop :=
  1 ≤ p.msgDepth ∧ p.msgDepth ≤ 256 ∧ p.notFoundCode ≠ 0x00#8 ∧ p.notFoundCode ≠ 0x01#8

/-- UNIT_NUM: milliseconds of one unit at 1 wpm (00_scope.md R9, 41_unit_timing.md R122). -/
def Config.unitNum : Nat := 1200

/-- MSG_INIT: what a message byte holds that nothing has written since the given reset, by channel and address. A FREE
VALUE: one draw for each byte, fixed at reset (20_memory.md R52, 93_implementation_defined.md I6; log entry 4). -/
opaque Config.msgInit (resets : Nat) (c : Slot) (addr : Nat) : Byte

/-- The duration of k units at 0 wpm, for which 41_unit_timing.md R123 states no result. A FREE VALUE; no state reached
from reset asks for it (41_unit_timing.md R120; log entry 9). -/
opaque Config.durAtZeroWpm (k : Nat) : Nat

end Sys2Proof
end

