-- ==== Sys2Proof/Syntax.lean ====
section
/-! DEFINITION. The eight host commands: one constructor for each row of spec/opcode_table.json (30_encoding.md R79). -/

namespace Sys2Proof

/-- The commands with the operands of 30_encoding.md R72 to R77. The time operand `now` of SUBMIT and TICK is no field of
the word: it is the value sampled on the `now_ms` port (R76, R78). -/
inductive Instr where
  /-- CONFIGURE (43_channel_adapter.md R190). KIND 2 and 3 are legal words that raise Fatal (30_encoding.md R83). -/
  | configure (kind : BitVec 2) (id : Byte) (wpm : Byte)
  /-- SET_WPM (41_unit_timing.md R130). -/
  | setWpm (ch : Slot) (wpm : Byte)
  /-- MSG_WRITE (42_automaton.md R146). -/
  | msgWrite (ch : Slot) (addr : Byte) (data : Byte)
  /-- SUBMIT (42_automaton.md R150). -/
  | submit (ch : Slot) (len : BitVec 9)
  /-- TICK (42_automaton.md R160). -/
  | tick (ch : Slot)
  /-- STOP (42_automaton.md R170). -/
  | stop (ch : Slot)
  /-- IS_SENDING (42_automaton.md R180). -/
  | isSending (ch : Slot)
  /-- READ_STATUS (43_channel_adapter.md R210). -/
  | readStatus
  deriving DecidableEq, Repr

end Sys2Proof
end

