-- ==== Sys2Proof/WellFormed.lean ====
section
/-! DEFINITION. The value checks of the opcode map (30_encoding.md R79, R80). -/

namespace Sys2Proof

/-- A command has an encoding of its own exactly when the value check of its row holds (30_encoding.md R79): a MSG_WRITE
address below MSG_DEPTH, a SUBMIT length of at most MSG_DEPTH. The widths of the other operands leave nothing to check. -/
def Instr.wf (p : Params) : Instr → Bool
  | .configure _ _ _ => true
  | .setWpm _ _ => true
  | .msgWrite _ addr _ => decide (addr.toNat < p.msgDepth)
  | .submit _ len => decide (len.toNat ≤ p.msgDepth)
  | .tick _ => true
  | .stop _ => true
  | .isSending _ => true
  | .readStatus => true

end Sys2Proof
end

