-- ==== Sys2Proof/Decode.lean ====
section
/-! DEFINITION. Command words to commands and back (30_encoding.md). The decoder reads the word and MSG_DEPTH only, is total,
and rejects by name (R80); the encoder writes the bit patterns of R72 to R77. -/

namespace Sys2Proof

/-- Why a word is Illegal (30_encoding.md R80). All four have the one effect of 60_exceptions.md R226. -/
inductive IllegalWord where
  /-- OP is 0x0 or 0x9..0xF -/
  | opcode
  /-- a reserved bit of the format is 1 (R81) -/
  | reservedBit
  /-- a MSG_WRITE with ADDR >= MSG_DEPTH -/
  | addrOutOfRange
  /-- a SUBMIT with LEN > MSG_DEPTH -/
  | lenOutOfRange
  deriving DecidableEq, Repr

/-- The slot a CH bit selects (30_encoding.md R71). -/
def Slot.ofBit (b : Bool) : Slot := if b then .cw else .toggle

/-- The CH bit of a slot (30_encoding.md R71). -/
def Slot.bit : Slot → BitVec 1
  | .toggle => 0#1
  | .cw => 1#1

/-! Operand assembly: every field unsigned, taken in place (30_encoding.md R78). -/

/-- OP = word[31:28] (R71). -/
def opField (w : Word) : BitVec 4 := w.extractLsb' 28 4
/-- KIND = word[27:26] (R78). -/
def kindField (w : Word) : BitVec 2 := w.extractLsb' 26 2
/-- ID = word[23:16] (R78). -/
def idField (w : Word) : Byte := w.extractLsb' 16 8
/-- WPM = word[7:0] (R78). -/
def wpmField (w : Word) : Byte := w.extractLsb' 0 8
/-- CH = word[27] (R71, R78). -/
def chField (w : Word) : Slot := Slot.ofBit (w.getLsbD 27)
/-- ADDR = word[15:8] (R78). -/
def addrField (w : Word) : Byte := w.extractLsb' 8 8
/-- DATA = word[7:0] (R78). -/
def dataField (w : Word) : Byte := w.extractLsb' 0 8
/-- LEN = word[8:0] (R78). -/
def lenField (w : Word) : BitVec 9 := w.extractLsb' 0 9

/-- The word has none of the given reserved bits set (30_encoding.md R81). -/
def reservedClear (w reserved : Word) : Bool := w &&& reserved == 0#32

/-- A per-channel command of format CH: TICK, STOP, IS_SENDING (30_encoding.md R76, bits 26:0 reserved). -/
def decodeCh (w : Word) (mk : Slot → Instr) : Except IllegalWord Instr :=
  if reservedClear w 0x07FFFFFF#32 then .ok (mk (chField w)) else .error .reservedBit

/-- The decoder (30_encoding.md R79, R80). -/
def decode (p : Params) (w : Word) : Except IllegalWord Instr :=
  match (opField w).toNat with
  | 1 =>
    if reservedClear w 0x0300FF00#32 then .ok (.configure (kindField w) (idField w) (wpmField w))
    else .error .reservedBit
  | 2 => if reservedClear w 0x07FFFF00#32 then .ok (.setWpm (chField w) (wpmField w)) else .error .reservedBit
  | 3 =>
    if reservedClear w 0x07FF0000#32 then
      if (addrField w).toNat < p.msgDepth then .ok (.msgWrite (chField w) (addrField w) (dataField w))
      else .error .addrOutOfRange
    else .error .reservedBit
  | 4 =>
    if reservedClear w 0x07FFFE00#32 then
      if (lenField w).toNat ≤ p.msgDepth then .ok (.submit (chField w) (lenField w)) else .error .lenOutOfRange
    else .error .reservedBit
  | 5 => decodeCh w .tick
  | 6 => decodeCh w .stop
  | 7 => decodeCh w .isSending
  | 8 => if reservedClear w 0x0FFFFFFF#32 then .ok .readStatus else .error .reservedBit
  | _ => .error .opcode

/-- The word of a command: the patterns of 30_encoding.md R72 to R77, bit 31 first. -/
def encode : Instr → Word
  | .configure kind id wpm => 0x1#4 ++ kind ++ 0#2 ++ id ++ 0#8 ++ wpm
  | .setWpm ch wpm => 0x2#4 ++ ch.bit ++ 0#19 ++ wpm
  | .msgWrite ch addr data => 0x3#4 ++ ch.bit ++ 0#11 ++ addr ++ data
  | .submit ch len => 0x4#4 ++ ch.bit ++ 0#18 ++ len
  | .tick ch => 0x5#4 ++ ch.bit ++ 0#27
  | .stop ch => 0x6#4 ++ ch.bit ++ 0#27
  | .isSending ch => 0x7#4 ++ ch.bit ++ 0#27
  | .readStatus => 0x8#4 ++ 0#28

/-- The command word of a table word: its low nbits bits, every bit above them 0 (spec/opcode_table.json numbers the bits of
the one 32-bit word as 30_encoding.md R70 does). -/
def tableWord (nbits w : Nat) : Word := BitVec.ofNat 32 (w % 2 ^ nbits)

/-- What the decoder reads from a word of spec/opcode_table.json, MSG_DEPTH at its default. -/
def decodeTableWord (nbits w : Nat) : Option Instr :=
  match decode Params.default (tableWord nbits w) with
  | .ok i => some i
  | .error _ => none

end Sys2Proof
end

