-- ==== Sys2Proof/Machine/CodeRom.lean ====
section
/-! DEFINITION. morse_code_rom: the character to pattern table and the element functions (40_code_rom.md). -/

namespace Sys2Proof.Machine

/-- The 55 table entries, character code and pattern (40_code_rom.md R105). -/
def romTable : List (Byte × Byte) :=
  [(0x20#8, 0x01#8), (0x21#8, 0x75#8), (0x22#8, 0x52#8), (0x24#8, 0xC8#8), (0x26#8, 0x22#8), (0x27#8, 0x5E#8),
   (0x28#8, 0x2D#8), (0x29#8, 0x6D#8), (0x2B#8, 0x2A#8), (0x2C#8, 0x73#8), (0x2D#8, 0x61#8), (0x2E#8, 0x6A#8),
   (0x2F#8, 0x29#8)] ++
  [(0x30#8, 0x3F#8), (0x31#8, 0x3E#8), (0x32#8, 0x3C#8), (0x33#8, 0x38#8), (0x34#8, 0x30#8), (0x35#8, 0x20#8),
   (0x36#8, 0x21#8), (0x37#8, 0x23#8), (0x38#8, 0x27#8), (0x39#8, 0x2F#8), (0x3A#8, 0x47#8), (0x3B#8, 0x55#8),
   (0x3D#8, 0x31#8), (0x3F#8, 0x4C#8), (0x40#8, 0x56#8)] ++
  [(0x41#8, 0x06#8), (0x42#8, 0x11#8), (0x43#8, 0x15#8), (0x44#8, 0x09#8), (0x45#8, 0x02#8), (0x46#8, 0x14#8),
   (0x47#8, 0x0B#8), (0x48#8, 0x10#8), (0x49#8, 0x04#8), (0x4A#8, 0x1E#8), (0x4B#8, 0x0D#8), (0x4C#8, 0x12#8),
   (0x4D#8, 0x07#8)] ++
  [(0x4E#8, 0x05#8), (0x4F#8, 0x0F#8), (0x50#8, 0x16#8), (0x51#8, 0x1B#8), (0x52#8, 0x0A#8), (0x53#8, 0x08#8),
   (0x54#8, 0x03#8), (0x55#8, 0x0C#8), (0x56#8, 0x18#8), (0x57#8, 0x0E#8), (0x58#8, 0x19#8), (0x59#8, 0x1D#8),
   (0x5A#8, 0x13#8), (0x5F#8, 0x6C#8)]

/-- RomRead(ch): the table's pattern, NOT_FOUND_CODE for every other code (40_code_rom.md R103, R107). -/
def romRead (notFound : Byte) (ch : Byte) : Byte := (romTable.lookup ch).getD notFound

/-- The word-space sentinel, only the sentinel bit set (40_code_rom.md R101). -/
def wordSpace : Byte := 0x01#8

/-- The code of the no-op marker, tilde (40_code_rom.md R104, R106). -/
def tilde : Byte := 0x7E#8

/-- The code of the digraph toggle, backtick (40_code_rom.md R104, R106). -/
def backtick : Byte := 0x60#8

/-- nelem(p): the index of the highest set bit of p (40_code_rom.md R102); 0 for p = 0, which no rule asks for. -/
def nelem (p : Byte) : Nat := Nat.log2 p.toNat

/-- elem(p, i) = p[i], true for a dah (40_code_rom.md R102). -/
def elem (p : Byte) (i : BitVec 3) : Bool := p.getLsbD i.toNat

/-- more(p, i) = (p >> i) > 1: elements remain at or after index i (40_code_rom.md R102). -/
def more (p : Byte) (i : BitVec 3) : Bool := decide (1 < p.toNat >>> i.toNat)

end Sys2Proof.Machine
end

