-- ==== Sys2Proof/Machine/State.lean ====
section
/-! DEFINITION. Everything the block holds (10_state.md), with the ports its commands use (R41), as plain data; and reset. -/

namespace Sys2Proof.Machine

/-- The four states of the automaton (10_state.md R30). -/
inductive Phase where
  /-- AwaitingCharacter, AWAIT = 0 -/
  | await
  /-- ElementOn, ELEM_ON = 1 -/
  | elemOn
  /-- ElementGapPending, GAP_PENDING = 2, never held between commands (R39) -/
  | gapPending
  /-- GapActive, GAP_ACTIVE = 3 -/
  | gapActive
  deriving DecidableEq, Repr

/-- The fatal configuration errors (60_exceptions.md R221). -/
inductive Cause where
  /-- 0, no fatal error since reset -/
  | none
  /-- 1, BAD_KIND -/
  | badKind
  /-- 2, WPM_ZERO -/
  | wpmZero
  /-- 3, DUPLICATE -/
  | duplicate
  deriving DecidableEq, Repr

/-- The actuator events (43_channel_adapter.md R196). -/
inductive Event where
  /-- SET_LEVEL(id, level) -/
  | setLevel (id : Byte) (level : Bool)
  /-- ENABLE_TONE(id) -/
  | enableTone (id : Byte)
  /-- DISABLE_TONE(id) -/
  | disableTone (id : Byte)
  deriving DecidableEq, Repr

/-- What the host does at one accepted edge of `clk` (10_state.md R41; log entry 1). -/
inductive HostInput where
  /-- `rst = 1` (70_reset_and_hazards.md R250) -/
  | reset
  /-- `cmd_valid = 1` with `cmd_word`, and the value of `now_ms` sampled on the same edge -/
  | command (word now : Word)
  deriving DecidableEq, Repr

/-- A message store: the bytes written since reset, by rising address (20_memory.md R50 to R53). An address that is not
listed holds no written byte (log entry 5). -/
abbrev Memory := List Host.Cell

/-- The state of one channel slot (10_state.md R23 to R33, 41_unit_timing.md R120). The hard-wired `kind` (R22) is read
through `slotKind`. -/
structure Channel where
  /-- R23 -/
  configured : Bool
  /-- R24 -/
  id : Byte
  /-- 41_unit_timing.md R120 -/
  wpm : Byte
  /-- R25 -/
  sending : Bool
  /-- R26 -/
  len : BitVec 9
  /-- R26 -/
  charIndex : BitVec 9
  /-- R27 -/
  bitIndex : BitVec 3
  /-- R28 -/
  pattern : Byte
  /-- R29 -/
  digraph : Bool
  /-- R30 -/
  phase : Phase
  /-- R31 -/
  deadline : Word
  /-- R32 -/
  actOn : Bool
  /-- R33 -/
  msg : Memory
  deriving DecidableEq, Repr

/-- The block with its ports. -/
structure State where
  /-- slot 0 -/
  ch0 : Channel
  /-- slot 1 -/
  ch1 : Channel
  /-- 10_state.md R34 -/
  halted : Bool
  /-- 10_state.md R35 -/
  cause : Cause
  /-- 10_state.md R36 -/
  ill : Bool
  /-- `rsp_valid` and `rsp_data` (R41): the response of the last accepted command, if it gave one. -/
  rsp : Option Word
  /-- `evt_valid`, `evt_op`, `evt_id`, `evt_level` (R41): the events of the last accepted command, in order (log entry 3). -/
  evts : List Event
  /-- `now_ms` as sampled with the last accepted command (R41). The model's own field (log entry 2). -/
  nowMs : Word
  /-- What the host will do, the next input first. The model's own field (log entry 1). -/
  inputs : List HostInput
  /-- How many resets there were, which tells the draw of MSG_INIT that holds. The model's own field (log entry 4). -/
  resets : Nat
  /-- The open parameters, fixed for the machine. The model's own field (log entry 6). -/
  params : Params
  deriving DecidableEq, Repr

/-- Why a step stops. Both are safe: the model stops where the spec gives the block no behaviour, and no state reached from
reset raises either one. -/
inductive Fault where
  /-- Raised by TICK on a channel whose phase is GAP_PENDING at rest (93_implementation_defined.md I8). Safe. -/
  | gapPendingAtRest
  /-- Raised by TICK when it would load a character from an address outside the store, MSG_DEPTH or more
  (20_memory.md R51, R58; log entry 8). Safe. -/
  | addressOutsideStore
  deriving DecidableEq, Repr

/-- Why a step refuses an instruction. -/
inductive Refusal where
  /-- Raised by exec for an instruction without a meaning. Safe. No instruction of this model is without one. -/
  | notModelled (mnemonic : String)
  deriving DecidableEq, Repr

/-- One channel right after reset (10_state.md R42). -/
def Channel.reset : Channel where
  configured := false
  id := 0x00#8
  wpm := 0x00#8
  sending := false
  len := 0#9
  charIndex := 0#9
  bitIndex := 0#3
  pattern := 0x00#8
  digraph := false
  phase := .await
  deadline := 0#32
  actOn := false
  msg := []

/-- The block right after reset (10_state.md R42, 70_reset_and_hazards.md R250, R251). -/
def State.reset : State where
  ch0 := Channel.reset
  ch1 := Channel.reset
  halted := false
  cause := .none
  ill := false
  rsp := none
  evts := []
  nowMs := 0#32
  inputs := []
  resets := 0
  params := Params.default

end Sys2Proof.Machine
end

