-- ==== Sys2Proof/Machine/Operands.lean ====
section
/-! DEFINITION. The operand forms of the commands after decoding (30_encoding.md R71, R76, R78; 42_automaton.md R145). -/

namespace Sys2Proof.Machine

/-- The slot that CONFIGURE's KIND selects; none for an unrecognized kind (30_encoding.md R72, 43_channel_adapter.md R191). -/
def slotOfKind (kind : BitVec 2) : Option Slot :=
  if kind = 0#2 then some .toggle else if kind = 1#2 then some .cw else none

/-- The hard-wired `kind[c]`: false for the toggle kind 0, true for the continuous-wave kind 1 (10_state.md R22). -/
def slotKind : Slot → Bool
  | .toggle => false
  | .cw => true

/-- The other slot. -/
def otherSlot : Slot → Slot
  | .toggle => .cw
  | .cw => .toggle

/-- The operand `now` of SUBMIT and TICK: `now_ms` as sampled at acceptance (30_encoding.md R76, R78). -/
def State.now (s : State) : Word := s.nowMs

/-- fold(d): 'a'..'z' to 'A'..'Z', every other byte kept (42_automaton.md R145). -/
def foldCase (d : Byte) : Byte := if 0x61#8 ≤ d ∧ d ≤ 0x7A#8 then d - 0x20#8 else d

end Sys2Proof.Machine
end

