-- ==== Sys2Proof/Machine/Flags.lean ====
section
/-! DEFINITION. The codes of the named registers and every view of the flags: the status word and the output ports
(10_state.md R30, R35, R37, R41; 43_channel_adapter.md R196). -/

namespace Sys2Proof.Machine

/-- The encoding of `phase` (10_state.md R30). No command reads it. -/
def Phase.code : Phase → BitVec 2
  | .await => 0#2
  | .elemOn => 1#2
  | .gapPending => 2#2
  | .gapActive => 3#2

/-- The cause codes (60_exceptions.md R221). -/
def Cause.code : Cause → BitVec 2
  | .none => 0#2
  | .badKind => 1#2
  | .wpmZero => 2#2
  | .duplicate => 3#2

/-- A one-bit register as a bit. -/
def flag (b : Bool) : BitVec 1 := BitVec.ofBool b

/-- The status word, bits 31:12 first (10_state.md R37). -/
def State.statusWord (s : State) : Word :=
  0#20 ++ s.cause.code ++ flag s.halted ++ flag s.ill ++ flag s.ch1.digraph ++ flag s.ch0.digraph ++ flag s.ch1.actOn ++
    flag s.ch0.actOn ++ flag s.ch1.configured ++ flag s.ch0.configured ++ flag s.ch1.sending ++ flag s.ch0.sending

/-- `evt_op` (10_state.md R41). -/
def Event.op : Event → BitVec 2
  | .setLevel _ _ => 0#2
  | .enableTone _ => 1#2
  | .disableTone _ => 2#2

/-- `evt_id` (10_state.md R41). -/
def Event.id : Event → Byte
  | .setLevel id _ => id
  | .enableTone id => id
  | .disableTone id => id

/-- `evt_level`: the level for SET_LEVEL, 0 for the other kinds (10_state.md R41). -/
def Event.level : Event → Bool
  | .setLevel _ level => level
  | .enableTone _ => false
  | .disableTone _ => false

/-- The event on the event ports, none when `evt_valid` is low (10_state.md R41). -/
def State.evt (s : State) : Option Event := s.evts.head?

/-- `key_level` (10_state.md R41). -/
def State.keyLevel (s : State) : Bool := s.ch0.actOn
/-- `key_id` (10_state.md R41). -/
def State.keyId (s : State) : Byte := s.ch0.id
/-- `cw_enable` (10_state.md R41). -/
def State.cwEnable (s : State) : Bool := s.ch1.actOn
/-- `cw_id` (10_state.md R41). -/
def State.cwId (s : State) : Byte := s.ch1.id

end Sys2Proof.Machine
end

