-- ==== Sys2Proof/Machine/UnitTiming.lean ====
section
/-! DEFINITION. unit_timing_calculator and the expiry compare of the timing accumulator (41_unit_timing.md). -/

namespace Sys2Proof.Machine

/-- DUR(k, w) = ceil(k * 1200 / w), in whole milliseconds (41_unit_timing.md R123). At w = 0, outside its domain, a free
value (log entry 9). -/
def dur (k : Nat) (wpm : Byte) : Nat :=
  if wpm = 0x00#8 then Config.durAtZeroWpm k else (k * Config.unitNum + wpm.toNat - 1) / wpm.toNat

/-- expired(now, dl): bit 31 of the 32-bit difference is 0 (41_unit_timing.md R125, R131). -/
def expired (now dl : Word) : Bool := !(now - dl).msb

/-- The deadline of k units scheduled at `now` (41_unit_timing.md R126). -/
def deadlineAt (k : Nat) (wpm : Byte) (now : Word) : Word := now + BitVec.ofNat 32 (dur k wpm)

end Sys2Proof.Machine
end

