-- ==== Sys2Proof/Machine/Ops.lean ====
section
/-! DEFINITION. The named operations over the message stores, the channels, the ports and the error state: every meaning is
written over these. -/

namespace Sys2Proof.Machine

/-- What a step answers. -/
abbrev Result := Host.Outcome State Fault Refusal

/-! ## The message store (20_memory.md) -/

/-- The canonical form: addresses strictly rising, so that equal stores are equal lists (log entry 5). -/
abbrev Memory.wf (m : Memory) : Prop := m.Pairwise (fun x y => x.1 < y.1)

/-- The byte written at an address since reset, none for an address nothing has written (20_memory.md R52). -/
def Memory.read : Memory → Nat → Option Byte
  | [], _ => none
  | (b, w) :: m, a => if b = a then some w else Memory.read m a

/-- `msg[c][a] <- v` (20_memory.md R51), keeping the canonical form. -/
def Memory.write : Memory → Nat → Byte → Memory
  | [], a, v => [(a, v)]
  | (b, w) :: m, a, v =>
    if a < b then (a, v) :: (b, w) :: m
    else if a = b then (a, v) :: m
    else (b, w) :: Memory.write m a v

/-! ## Channels -/

/-- Channel c's copy of the per-channel registers (10_state.md). -/
def State.chan (s : State) : Slot → Channel
  | .toggle => s.ch0
  | .cw => s.ch1

/-- The state with channel c's registers replaced. -/
def State.setChan (s : State) : Slot → Channel → State
  | .toggle, ch => { s with ch0 := ch }
  | .cw, ch => { s with ch1 := ch }

/-- The state with a change made to channel c's registers. -/
def State.mapChan (s : State) (c : Slot) (f : Channel → Channel) : State := s.setChan c (f (s.chan c))

/-- One byte of channel c's store as a TICK reads it: MemRead(c, a), a never-written byte being this reset's draw of MSG_INIT
(20_memory.md R51, R52; log entry 4). -/
def State.byteAt (s : State) (c : Slot) (a : Nat) : Byte :=
  ((s.chan c).msg.read a).getD (Config.msgInit s.resets c a)

/-- MemWrite(c, a, v) (20_memory.md R51). -/
def State.memWrite (s : State) (c : Slot) (a : Nat) (v : Byte) : State :=
  s.mapChan c fun ch => { ch with msg := ch.msg.write a v }

/-! ## Errors and reset (60_exceptions.md, 70_reset_and_hazards.md) -/

/-- `raise Fatal(code)`: halted and the cause, nothing else (60_exceptions.md R222). This is the block's only entry into an
error state that stops commands; it saves no more than the cause (R229). -/
def State.raiseFatal (s : State) (code : Cause) : State := { s with halted := true, cause := code }

/-- `raise Illegal` (60_exceptions.md R226). -/
def State.raiseIllegal (s : State) : State := if s.halted then s else { s with ill := true }

/-- The halted and the unconfigured test that every per-channel command but IS_SENDING makes first
(60_exceptions.md R223, R224, R228). -/
def State.ignores (s : State) (c : Slot) : Bool := s.halted || !(s.chan c).configured

/-- `rst = 1` at an edge: every register at its reset value, the message bytes at a new draw of MSG_INIT, no response and no
event (70_reset_and_hazards.md R250, R253; 20_memory.md R52, R53). It is the one way out of the halted state (60_exceptions.md
R230). The parameters, the clock and the host's further inputs are not the block's. -/
def State.resetInput (s : State) (rest : List HostInput) : State :=
  { State.reset with params := s.params, nowMs := s.nowMs, inputs := rest, resets := s.resets + 1 }

/-! ## Ports (10_state.md R41) -/

/-- An edge without a command: the strobes of the last command are low again (10_state.md R41; log entry 12). -/
def State.quiet (s : State) : State := { s with rsp := none, evts := [] }

/-- A command is accepted: `now_ms` is sampled and the last command's response and event are over (10_state.md R41). -/
def State.accept (s : State) (now : Word) (rest : List HostInput) : State :=
  { s with nowMs := now, inputs := rest, rsp := none, evts := [] }

/-- `rsp <- v` (42_automaton.md R180, 43_channel_adapter.md R210). -/
def State.respond (s : State) (v : Word) : State := { s with rsp := some v }

/-- `emit E` (43_channel_adapter.md R195, R196). -/
def State.emit (s : State) (e : Event) : State := { s with evts := s.evts ++ [e] }

/-! ## The channel adapter (43_channel_adapter.md R195) -/

/-- `act_on[c] <- on`. -/
def State.setAct (s : State) (c : Slot) (on : Bool) : State := s.mapChan c fun ch => { ch with actOn := on }

/-- drive(c, req), `on` for ON: the only writer of `act_on` and the only source of events (43_channel_adapter.md R195). -/
def State.drive (s : State) (c : Slot) (on : Bool) : State :=
  if slotKind c = false then (s.setAct c on).emit (.setLevel (s.chan c).id on)
  else if on = (s.chan c).actOn then s
  else (s.setAct c on).emit (if on then .enableTone (s.chan c).id else .disableTone (s.chan c).id)

/-! ## The automaton (42_automaton.md) -/

/-- go_idle (42_automaton.md R143). -/
def Channel.goIdle (ch : Channel) : Channel :=
  { ch with sending := false, charIndex := 0#9, bitIndex := 0#3, pattern := 0x00#8, digraph := false, phase := .await }

/-- The register writes of SUBMIT (42_automaton.md R150). -/
def Channel.start (ch : Channel) (n : BitVec 9) (now : Word) : Channel :=
  { ch with
    len := n, charIndex := 0#9, bitIndex := 0#3, pattern := 0x00#8, digraph := false, phase := .await, deadline := now,
    sending := true }

/-- Schedule k units at `now` (41_unit_timing.md R126). -/
def Channel.schedule (ch : Channel) (k : Nat) (now : Word) : Channel :=
  { ch with deadline := deadlineAt k ch.wpm now }

/-- The units of the element at `bitIndex`: 3 for a dah, 1 for a dit (42_automaton.md R163). -/
def Channel.toneUnits (ch : Channel) : Nat := if elem ch.pattern ch.bitIndex then 3 else 1

/-- The units of the gap after an element, bitIndex already past it: intra when elements remain or in digraph mode, else
inter (42_automaton.md R164, R168). -/
def Channel.gapUnits (ch : Channel) : Nat := if more ch.pattern ch.bitIndex || ch.digraph then 1 else 3

/-- element_on(c, now) (42_automaton.md R163). -/
def State.elementOn (s : State) (c : Slot) (now : Word) : State :=
  let s := s.mapChan c fun ch => { ch with phase := .elemOn }
  if (s.chan c).pattern = wordSpace then s.mapChan c fun ch => ch.schedule 7 now
  else (s.mapChan c fun ch => ch.schedule ch.toneUnits now).drive c true

/-- gap_pending(c, now) (42_automaton.md R164). -/
def State.gapPending (s : State) (c : Slot) (now : Word) : State :=
  let s := s.mapChan c fun ch => { ch with phase := .gapPending }
  let s := if (s.chan c).pattern = wordSpace then s else s.drive c false
  let s := s.mapChan c fun ch => { ch with bitIndex := ch.bitIndex + 1#3 }
  let s := s.mapChan c fun ch => ch.schedule ch.gapUnits now
  s.mapChan c fun ch => { ch with phase := .gapActive }

/-- The end of a character's last gap, before AWAIT runs (42_automaton.md R160, R166). -/
def Channel.finishChar (ch : Channel) : Channel :=
  { ch with bitIndex := 0#3, charIndex := ch.charIndex + 1#9, phase := .await }

/-- A tilde is consumed (42_automaton.md R162). -/
def Channel.skipChar (ch : Channel) : Channel := { ch with charIndex := ch.charIndex + 1#9 }

/-- A backtick is consumed (42_automaton.md R162). -/
def Channel.toggleDigraph (ch : Channel) : Channel :=
  { ch with digraph := !ch.digraph, charIndex := ch.charIndex + 1#9 }

/-- A character that is no control character is loaded from the ROM and its first element begins (42_automaton.md R162). -/
def State.loadChar (s : State) (c : Slot) (b : Byte) (now : Word) : State :=
  let s := s.mapChan c fun ch =>
    { ch with pattern := romRead s.params.notFoundCode b, bitIndex := 0#3, deadline := now }
  s.elementOn c now

/-- The message byte at `charIndex`, none where that is no address of the store (42_automaton.md R162, 20_memory.md R51). -/
def State.nextByte (s : State) (c : Slot) : Option Byte :=
  let a := (s.chan c).charIndex.toNat
  if a < s.params.msgDepth then some (s.byteAt c a) else none

/-- The AWAIT passes of one TICK with `left` characters before `len` (42_automaton.md R160 to R162): control characters are
consumed until a character is loaded or the message ends. -/
def awaitRun (c : Slot) (now : Word) : Nat → State → Result
  | 0, s => .next (s.mapChan c Channel.goIdle)
  | left + 1, s =>
    match s.nextByte c with
    | none => .fault .addressOutsideStore
    | some b =>
      if b = tilde then awaitRun c now left (s.mapChan c Channel.skipChar)
      else if b = backtick then awaitRun c now left (s.mapChan c Channel.toggleDigraph)
      else .next (s.loadChar c b now)

/-- AWAIT of one TICK. `len - charIndex` is 0 exactly when `charIndex == len`, and each consumed character lowers it by 1, so
the loop of 42_automaton.md R160 runs at most that many passes and one more (R161; log entry 14). -/
def awaitChars (c : Slot) (now : Word) (s : State) : Result :=
  awaitRun c now ((s.chan c).len - (s.chan c).charIndex).toNat s

/-! ## Fetching -/

/-- The word and the parameters, decoded (30_encoding.md R80). -/
def State.decoded (s : State) (word : Word) : Except IllegalWord Instr := decode s.params word

end Sys2Proof.Machine
end

