-- ==== Sys2Proof/Machine/Adapter.lean ====
section
/-! DEFINITION. The channel adapter's commands: CONFIGURE and READ_STATUS (43_channel_adapter.md). -/

namespace Sys2Proof.Machine

/-- CONFIGURE (43_channel_adapter.md R190; priority 60_exceptions.md R228). -/
def execConfigure (kind : BitVec 2) (id wpm : Byte) (s : State) : Result :=
  if s.halted then .next s
  else
    match slotOfKind kind with
    | none => .next (s.raiseFatal .badKind)
    | some c =>
      if wpm = 0x00#8 then .next (s.raiseFatal .wpmZero)
      else if (s.chan c).configured then .next (s.raiseFatal .duplicate)
      else .next (s.mapChan c fun ch => { ch with configured := true, id := id, wpm := wpm })

/-- READ_STATUS (43_channel_adapter.md R210): answered in every state, clears nothing. -/
def execReadStatus (s : State) : Result := .next (s.respond s.statusWord)

end Sys2Proof.Machine
end

