-- ==== Sys2Proof/Machine/Automaton.lean ====
section
/-! DEFINITION. The automaton's commands: MSG_WRITE, SUBMIT, TICK, STOP and IS_SENDING (42_automaton.md). -/

namespace Sys2Proof.Machine

/-- MSG_WRITE (42_automaton.md R146). An address outside the store makes the command Illegal, tested first
(60_exceptions.md R228; log entry 10). -/
def execMsgWrite (c : Slot) (addr data : Byte) (s : State) : Result :=
  if Instr.wf s.params (.msgWrite c addr data) = false then .next s.raiseIllegal
  else if s.ignores c then .next s
  else if (s.chan c).sending then .next s
  else .next (s.memWrite c addr.toNat (foldCase data))

/-- SUBMIT (42_automaton.md R150, R151). A length above MSG_DEPTH makes the command Illegal, tested first
(60_exceptions.md R228; log entry 10). -/
def execSubmit (c : Slot) (n : BitVec 9) (s : State) : Result :=
  if Instr.wf s.params (.submit c n) = false then .next s.raiseIllegal
  else if s.ignores c then .next s
  else if (s.chan c).sending then .next s
  else .next (s.mapChan c fun ch => ch.start n s.now)

/-- TICK (42_automaton.md R160). GAP_PENDING is never held between commands (10_state.md R39); at rest it is a fault
(93_implementation_defined.md I8; log entry 7). -/
def execTick (c : Slot) (s : State) : Result :=
  if s.ignores c then .next s
  else if (s.chan c).sending = false then .next s
  else
    match (s.chan c).phase with
    | .await => awaitChars c s.now s
    | .elemOn => if expired s.now (s.chan c).deadline then .next (s.gapPending c s.now) else .next s
    | .gapActive =>
      if expired s.now (s.chan c).deadline = false then .next s
      else if more (s.chan c).pattern (s.chan c).bitIndex = false then awaitChars c s.now (s.mapChan c Channel.finishChar)
      else .next (s.elementOn c s.now)
    | .gapPending => .fault .gapPendingAtRest

/-- STOP (42_automaton.md R170): idle at once, then the adapter's clean off. -/
def execStop (c : Slot) (s : State) : Result :=
  if s.ignores c then .next s
  else
    let s := s.mapChan c Channel.goIdle
    if (s.chan c).actOn then .next (s.drive c false) else .next s

/-- IS_SENDING (42_automaton.md R180): answered in every state. -/
def execIsSending (c : Slot) (s : State) : Result := .next (s.respond ((flag (s.chan c).sending).setWidth 32))

end Sys2Proof.Machine
end

