-- ==== Sys2Proof/Machine/Rate.lean ====
section
/-! DEFINITION. The rate command: SET_WPM (41_unit_timing.md). -/

namespace Sys2Proof.Machine

/-- SET_WPM (41_unit_timing.md R130; priority 60_exceptions.md R228). -/
def execSetWpm (c : Slot) (wpm : Byte) (s : State) : Result :=
  if s.ignores c then .next s
  else if wpm = 0x00#8 then .next (s.raiseFatal .wpmZero)
  else .next (s.mapChan c fun ch => { ch with wpm := wpm })

end Sys2Proof.Machine
end

