-- ==== Sys2Proof/Machine/Dispatch.lean ====
section
/-! DEFINITION. One arm for each command (30_encoding.md R79). -/

namespace Sys2Proof.Machine

def exec (i : Instr) (s : State) : Host.Outcome State Fault Refusal :=
  match i with
  | .configure kind id wpm => Sys2Proof.Machine.execConfigure kind id wpm s
  | .setWpm ch wpm => Sys2Proof.Machine.execSetWpm ch wpm s
  | .msgWrite ch addr data => Sys2Proof.Machine.execMsgWrite ch addr data s
  | .submit ch len => Sys2Proof.Machine.execSubmit ch len s
  | .tick ch => Sys2Proof.Machine.execTick ch s
  | .stop ch => Sys2Proof.Machine.execStop ch s
  | .isSending ch => Sys2Proof.Machine.execIsSending ch s
  | .readStatus => Sys2Proof.Machine.execReadStatus s

end Sys2Proof.Machine
end

