-- ==== Sys2Proof/Machine/Step.lean ====
section
/-! DEFINITION. The model's step (00_scope.md R12): the block takes the host's next input. -/

namespace Sys2Proof.Machine

/-- One step: a reset (70_reset_and_hazards.md R250); or a command, decoded, then executed or Illegal (60_exceptions.md R228);
with nothing offered the block waits (70_reset_and_hazards.md R251, 60_exceptions.md R238). -/
def step (s : State) : Host.Outcome State Fault Refusal :=
  match s.inputs with
  | [] => .next s.quiet
  | .reset :: rest => .next (s.resetInput rest)
  | .command word now :: rest =>
    match s.decoded word with
    | .ok i => exec i (s.accept now rest)
    | .error _ => .next (s.accept now rest).raiseIllegal

/-- The host offers a table word as its next command, at the time last sampled (log entry 1). -/
def State.withFetchWord (s : State) (nbits w : Nat) : State :=
  { s with inputs := .command (tableWord nbits w) s.nowMs :: s.inputs }

end Sys2Proof.Machine
end

