-- ==== Sys2Proof/Safety.lean ====
section
/-! DEFINITION. What counts as a sound state, a finished transmission and an untouched part, in the terms the statements use. -/

namespace Sys2Proof.Machine

/-- Channel c has finished its transmission. A halted block is in the fault state and never finished
(60_exceptions.md R223, 93_implementation_defined.md I20; log entry 11). -/
def State.finished (s : State) (c : Slot) : Bool := !s.halted && !(s.chan c).sending

/-- Channel c takes commands: the block is not halted and the slot is configured (60_exceptions.md R228). -/
abbrev State.Live (s : State) (c : Slot) : Prop := s.halted = false ∧ (s.chan c).configured = true

/-- What holds of a channel between commands. -/
structure Channel.Inv (p : Params) (ch : Channel) : Prop where
  /-- the store has its canonical form (log entry 5) -/
  store : ch.msg.wf
  /-- every listed address is one of the store (20_memory.md R58) -/
  storeAddr : ∀ x ∈ ch.msg, x.1 < p.msgDepth
  /-- 10_state.md R26 -/
  len_le : ch.len.toNat ≤ p.msgDepth
  /-- 10_state.md R26, R38 -/
  char_le : ch.charIndex.toNat ≤ ch.len.toNat
  /-- 10_state.md R39, first sentence -/
  not_pending : ch.phase ≠ .gapPending
  /-- 10_state.md R40 -/
  idle : ch.sending = false →
    ch.charIndex = 0#9 ∧ ch.bitIndex = 0#3 ∧ ch.digraph = false ∧ ch.pattern = 0x00#8 ∧ ch.phase = .await
  /-- 10_state.md R39: AWAIT while sending stands only as SUBMIT leaves it -/
  primed : ch.sending = true → ch.phase = .await →
    ch.charIndex = 0#9 ∧ ch.bitIndex = 0#3 ∧ ch.digraph = false ∧ ch.pattern = 0x00#8
  /-- 60_exceptions.md R224 and 10_state.md R25: an unconfigured slot is idle -/
  busy_configured : ch.sending = true → ch.configured = true
  /-- 41_unit_timing.md R120 -/
  wpm_pos : ch.configured = true → ch.wpm ≠ 0x00#8
  /-- 43_channel_adapter.md R197 -/
  act_iff : ch.actOn = true ↔ ch.sending = true ∧ ch.phase = .elemOn ∧ ch.pattern ≠ wordSpace
  /-- 10_state.md R28, last sentence, and a character in progress lies inside the message (R26) -/
  in_char : ch.phase = .elemOn ∨ ch.phase = .gapActive → ch.pattern ≠ 0x00#8 ∧ ch.charIndex.toNat < ch.len.toNat
  /-- 10_state.md R27: an element in progress is one of the pattern, or the word-space hold -/
  bit_on : ch.phase = .elemOn → ch.bitIndex.toNat < nelem ch.pattern ∨ (ch.pattern = wordSpace ∧ ch.bitIndex = 0#3)
  /-- 10_state.md R27 -/
  bit_gap : ch.phase = .gapActive → ch.bitIndex.toNat ≤ max (nelem ch.pattern) 1

/-- What holds of the block between commands. -/
structure State.Inv (s : State) : Prop where
  /-- 00_scope.md R9 -/
  params : s.params.Legal
  /-- each channel is sound -/
  chan : ∀ c, (s.chan c).Inv s.params
  /-- 10_state.md R35: `cause` is written only together with `halted` -/
  cause_iff : s.halted = true ↔ s.cause ≠ .none

/-- Nothing outside channel c changed: not the other channel, no global register, no input, no parameter. -/
structure SameOutside (c : Slot) (s t : State) : Prop where
  other : t.chan (otherSlot c) = s.chan (otherSlot c)
  halted : t.halted = s.halted
  cause : t.cause = s.cause
  ill : t.ill = s.ill
  nowMs : t.nowMs = s.nowMs
  inputs : t.inputs = s.inputs
  resets : t.resets = s.resets
  params : t.params = s.params

/-- Every byte of both message stores reads as before (20_memory.md R51). -/
def SameMemory (s t : State) : Prop := ∀ c a, t.byteAt c a = s.byteAt c a

/-- The command issued no response and no event. -/
def Silent (s t : State) : Prop := t.rsp = s.rsp ∧ t.evts = s.evts

/-- The channel a command is addressed to; none for READ_STATUS and for a CONFIGURE of an unrecognized kind
(30_encoding.md R71). -/
def slotOf : Instr → Option Slot
  | .configure kind _ _ => slotOfKind kind
  | .setWpm c _ => some c
  | .msgWrite c _ _ => some c
  | .submit c _ => some c
  | .tick c => some c
  | .stop c => some c
  | .isSending c => some c
  | .readStatus => none

/-- Channel c is live and in a transmission. -/
abbrev State.Running (s : State) (c : Slot) : Prop := s.Live c ∧ (s.chan c).sending = true

/-- The events of a request on a channel: the toggle kind always sets its level, the continuous-wave kind skips a request equal
to `act_on` (43_channel_adapter.md R195). -/
def requestEvents (c : Slot) (ch : Channel) (on : Bool) : List Event :=
  if slotKind c = false then [.setLevel ch.id on]
  else if on = ch.actOn then []
  else if on then [.enableTone ch.id] else [.disableTone ch.id]

/-- The fatal cause a command meets on a block that is not halted, in the order of the tests (60_exceptions.md R221, R228). -/
def fatalCause (s : State) : Instr → Cause
  | .configure kind _ wpm =>
    if 2 ≤ kind.toNat then .badKind
    else if wpm = 0x00#8 then .wpmZero
    else if (s.chan (if kind = 1#2 then .cw else .toggle)).configured then .duplicate
    else .none
  | .setWpm c wpm => if (s.chan c).configured = true ∧ wpm = 0x00#8 then .wpmZero else .none
  | _ => .none

/-- An outcome with its next state changed. -/
def mapNext (f : State → State) : Result → Result
  | .next t => .next (f t)
  | .fault r => .fault r
  | .refused r => .refused r

/-- TICKs on channel c, the k-th at time `τ k` of an unbounded time line (70_reset_and_hazards.md R258). -/
def ticksAt (c : Slot) (τ : Nat → Nat) (s : State) : Nat → Result
  | 0 => .next s
  | k + 1 =>
    match ticksAt c τ s k with
    | .next t => exec (.tick c) { t with nowMs := BitVec.ofNat 32 (τ k) }
    | r => r

/-- k TICKs on channel c, each exactly at the deadline it finds. -/
def promptTicks (c : Slot) (s : State) : Nat → Result
  | 0 => .next s
  | k + 1 =>
    match promptTicks c s k with
    | .next t => exec (.tick c) { t with nowMs := (t.chan c).deadline }
    | r => r

/-- The host's next input is not a reset. -/
abbrev State.NoReset (s : State) : Prop := s.inputs.head? ≠ some .reset

/-- A transmitted byte is a control character (40_code_rom.md R106). -/
def isControl (b : Byte) : Bool := b == tilde || b == backtick

/-- How many of the n bytes from address a on are backticks. -/
def backticks (s : State) (c : Slot) (a n : Nat) : Nat := (List.range n).countP fun k => s.byteAt c (a + k) == backtick

/-- A dit and a dah as pattern bits (40_code_rom.md R101). -/
abbrev dit : Bool := false
abbrev dah : Bool := true

/-- The elements of a pattern, the first sent first (40_code_rom.md R102). -/
def elements (p : Byte) : List Bool := (List.range (nelem p)).map p.getLsbD

/-- The Morse column of the table, every character but space (40_code_rom.md R105). -/
def morseColumn : List (Byte × List Bool) :=
  [(0x21#8, [dah, dit, dah, dit, dah, dah]),
   (0x22#8, [dit, dah, dit, dit, dah, dit]),
   (0x24#8, [dit, dit, dit, dah, dit, dit, dah]),
   (0x26#8, [dit, dah, dit, dit, dit]),
   (0x27#8, [dit, dah, dah, dah, dah, dit]),
   (0x28#8, [dah, dit, dah, dah, dit]),
   (0x29#8, [dah, dit, dah, dah, dit, dah]),
   (0x2B#8, [dit, dah, dit, dah, dit]),
   (0x2C#8, [dah, dah, dit, dit, dah, dah]),
   (0x2D#8, [dah, dit, dit, dit, dit, dah]),
   (0x2E#8, [dit, dah, dit, dah, dit, dah]),
   (0x2F#8, [dah, dit, dit, dah, dit]),
   (0x30#8, [dah, dah, dah, dah, dah]),
   (0x31#8, [dit, dah, dah, dah, dah]),
   (0x32#8, [dit, dit, dah, dah, dah]),
   (0x33#8, [dit, dit, dit, dah, dah]),
   (0x34#8, [dit, dit, dit, dit, dah]),
   (0x35#8, [dit, dit, dit, dit, dit])] ++
  [(0x36#8, [dah, dit, dit, dit, dit]),
   (0x37#8, [dah, dah, dit, dit, dit]),
   (0x38#8, [dah, dah, dah, dit, dit]),
   (0x39#8, [dah, dah, dah, dah, dit]),
   (0x3A#8, [dah, dah, dah, dit, dit, dit]),
   (0x3B#8, [dah, dit, dah, dit, dah, dit]),
   (0x3D#8, [dah, dit, dit, dit, dah]),
   (0x3F#8, [dit, dit, dah, dah, dit, dit]),
   (0x40#8, [dit, dah, dah, dit, dah, dit]),
   (0x41#8, [dit, dah]),
   (0x42#8, [dah, dit, dit, dit]),
   (0x43#8, [dah, dit, dah, dit]),
   (0x44#8, [dah, dit, dit]),
   (0x45#8, [dit]),
   (0x46#8, [dit, dit, dah, dit]),
   (0x47#8, [dah, dah, dit]),
   (0x48#8, [dit, dit, dit, dit]),
   (0x49#8, [dit, dit])] ++
  [(0x4A#8, [dit, dah, dah, dah]),
   (0x4B#8, [dah, dit, dah]),
   (0x4C#8, [dit, dah, dit, dit]),
   (0x4D#8, [dah, dah]),
   (0x4E#8, [dah, dit]),
   (0x4F#8, [dah, dah, dah]),
   (0x50#8, [dit, dah, dah, dit]),
   (0x51#8, [dah, dah, dit, dah]),
   (0x52#8, [dit, dah, dit]),
   (0x53#8, [dit, dit, dit]),
   (0x54#8, [dah]),
   (0x55#8, [dit, dit, dah]),
   (0x56#8, [dit, dit, dit, dah]),
   (0x57#8, [dit, dah, dah]),
   (0x58#8, [dah, dit, dit, dah]),
   (0x59#8, [dah, dit, dah, dah]),
   (0x5A#8, [dah, dah, dit, dit]),
   (0x5F#8, [dit, dit, dah, dah, dit, dah])]

end Sys2Proof.Machine
end

