-- ==== Sys2Proof/Certificates/Slice0/Obligations.lean ====
section
/-! DEFINITION. The statements for the provers. Each says what a numbered rule of spec/ says of the model, or what the cited
rules give together. Every statement about all states also covers states that no run reaches, but where it has `State.Inv` as
a premise, the invariant that `StepKeepsInvariant` and `ResetMeetsInvariant` state. -/

open Sys2Proof Sys2Proof.Machine

/-! ## Encoding (30_encoding.md) -/

/-- 30_encoding.md R86: the worked encodings, both ways, with the two Illegal words and the one that raises BAD_KIND. -/
def Obligations.WorkedEncodingsBothWays : Prop :=
  (∀ x ∈ ([(0x1002000F#32, .configure 0#2 2#8 15#8), (0x14010014#32, .configure 1#2 1#8 20#8),
      (0x1800000F#32, .configure 2#2 0#8 15#8), (0x28000019#32, .setWpm .cw 25#8), (0x30000065#32, .msgWrite .toggle 0#8 0x65#8),
      (0x38000360#32, .msgWrite .cw 3#8 0x60#8), (0x40000001#32, .submit .toggle 1#9), (0x48000100#32, .submit .cw 256#9),
      (0x50000000#32, .tick .toggle), (0x58000000#32, .tick .cw), (0x60000000#32, .stop .toggle), (0x68000000#32, .stop .cw),
      (0x70000000#32, .isSending .toggle), (0x78000000#32, .isSending .cw), (0x80000000#32, .readStatus)] : List (Word × Instr)),
    decode Params.default x.1 = .ok x.2 ∧ encode x.2 = x.1) ∧
  decode Params.default 0x50000001#32 = .error .reservedBit ∧
  decode Params.default 0x00000000#32 = .error .opcode ∧
  ∀ s : State, s.halted = false → exec (.configure 2#2 0#8 15#8) s = .next { s with halted := true, cause := .badKind }

/-- Every command with operands its encoding admits decodes from its own word: no operand bit is dropped. -/
def Obligations.DecodeOfEncode : Prop :=
  ∀ (p : Params) (i : Instr), i.wf p = true → decode p (encode i) = .ok i

/-- Every legal word is the encoding of the command it decodes to: no two words share a meaning and no bit is ignored. -/
def Obligations.EncodeOfDecode : Prop :=
  ∀ (p : Params) (w : Word) (i : Instr), decode p w = .ok i → encode i = w ∧ i.wf p = true

/-- 30_encoding.md R80: exactly these words are Illegal, and decode reads only the word and MSG_DEPTH. -/
def Obligations.IllegalWordsAreExactlyThese : Prop :=
  ∀ (p : Params) (w : Word),
    (∀ q : Params, q.msgDepth = p.msgDepth → decode q w = decode p w) ∧
    let op := (w.extractLsb' 28 4).toNat
    ((∃ e, decode p w = .error e) ↔
      op = 0 ∨ 9 ≤ op ∨
      (op = 1 ∧ w &&& 0x0300FF00#32 ≠ 0#32) ∨ (op = 2 ∧ w &&& 0x07FFFF00#32 ≠ 0#32) ∨
      (op = 3 ∧ w &&& 0x07FF0000#32 ≠ 0#32) ∨ (op = 4 ∧ w &&& 0x07FFFE00#32 ≠ 0#32) ∨
      ((op = 5 ∨ op = 6 ∨ op = 7) ∧ w &&& 0x07FFFFFF#32 ≠ 0#32) ∨ (op = 8 ∧ w &&& 0x0FFFFFFF#32 ≠ 0#32) ∨
      (op = 3 ∧ p.msgDepth ≤ (w.extractLsb' 8 8).toNat) ∨ (op = 4 ∧ p.msgDepth < (w.extractLsb' 0 9).toNat))

/-- 30_encoding.md R78: every field is taken in place, and `now` is no part of the word: the commands other than SUBMIT and TICK
do the same at every `now`. -/
def Obligations.OperandsAreTakenInPlace : Prop :=
  (∀ (p : Params) (w : Word) (i : Instr), decode p w = .ok i →
    let ch : Slot := if w.getLsbD 27 then .cw else .toggle
    match i with
    | .configure kind id wpm => kind = w.extractLsb' 26 2 ∧ id = w.extractLsb' 16 8 ∧ wpm = w.extractLsb' 0 8
    | .setWpm c wpm => c = ch ∧ wpm = w.extractLsb' 0 8
    | .msgWrite c addr data => c = ch ∧ addr = w.extractLsb' 8 8 ∧ data = w.extractLsb' 0 8
    | .submit c len => c = ch ∧ len = w.extractLsb' 0 9
    | .tick c => c = ch
    | .stop c => c = ch
    | .isSending c => c = ch
    | .readStatus => True) ∧
  ∀ (i : Instr) (s : State) (now : Word), (∀ c, i ≠ .tick c) → (∀ c n, i ≠ .submit c n) →
    exec i { s with nowMs := now } = mapNext (fun t => { t with nowMs := now }) (exec i s)

/-! ## The step, errors and reset (60_exceptions.md, 70_reset_and_hazards.md) -/

/-- A command the host offers is executed if its word decodes: the step is exec of it, `now` sampled, the last response and
event over. -/
def Obligations.StepRunsTheDecodedCommand : Prop :=
  ∀ (s : State) (word now : Word) (rest : List HostInput) (i : Instr),
    s.inputs = .command word now :: rest → decode s.params word = .ok i →
    step s = exec i { s with nowMs := now, inputs := rest, rsp := none, evts := [] }

/-- 60_exceptions.md R226: an Illegal word sets `ill` unless the block is halted, and nothing else; only reset clears it. -/
def Obligations.IllegalWordsOnlySetIll : Prop :=
  (∀ (s : State) (word now : Word) (rest : List HostInput) (e : IllegalWord),
    s.inputs = .command word now :: rest → decode s.params word = .error e →
    step s = .next { s with
      nowMs := now, inputs := rest, rsp := none, evts := [], ill := if s.halted = false then true else s.ill }) ∧
  ∀ s t : State, s.NoReset → step s = .next t → s.ill = true → t.ill = true

/-- With nothing offered the block changes no register; the strobes of the last command are low (the model's reading of
10_state.md R41 'pulses high for one cycle', log entry 12). -/
def Obligations.WaitingChangesNoRegister : Prop :=
  ∀ s : State, s.inputs = [] → step s = .next { s with rsp := none, evts := [] }

/-- After `rst` every register has its reset value, whatever the block did, and no byte is listed as written; the response and
event ports are low. The count of resets, which picks the next draw of the unwritten bytes, goes up (the model's choice, log
entry 4). -/
def Obligations.ResetInputRestoresEveryRegister : Prop :=
  ∀ (s : State) (rest : List HostInput), s.inputs = .reset :: rest →
    step s = .next { State.reset with
      params := s.params, nowMs := s.nowMs, inputs := rest, resets := s.resets + 1 }

/-- 10_state.md R42: the reset value of every register, which the spec gives as its own choice; no message byte is given one. -/
def Obligations.RegistersAtReset : Prop :=
  slotKind .toggle = false ∧ slotKind .cw = true ∧
  (∀ c, let ch := State.reset.chan c
    ch.configured = false ∧ ch.id = 0x00#8 ∧ ch.wpm = 0x00#8 ∧ ch.sending = false ∧ ch.len = 0#9 ∧ ch.charIndex = 0#9 ∧
    ch.bitIndex = 0#3 ∧ ch.pattern = 0x00#8 ∧ ch.digraph = false ∧ ch.phase = .await ∧ ch.deadline = 0x00000000#32 ∧
    ch.actOn = false ∧ ∀ a, ch.msg.read a = none) ∧
  State.reset.halted = false ∧ State.reset.cause = .none ∧ State.reset.ill = false

/-- 60_exceptions.md R230: no command leaves the halted state, changes its cause or clears `ill`; reset does. -/
def Obligations.OnlyResetEndsHaltAndClearsIll : Prop :=
  (∀ s t : State, s.NoReset → step s = .next t →
    (s.halted = true → t.halted = true ∧ t.cause = s.cause) ∧ (s.ill = true → t.ill = true)) ∧
  ∀ (s : State) (rest : List HostInput), s.inputs = .reset :: rest →
    ∃ t, step s = .next t ∧ t.halted = false ∧ t.cause = .none ∧ t.ill = false

/-- 60_exceptions.md R223: a halted block answers the two reads as usual, every other word has no effect, and no channel counts
as finished. -/
def Obligations.HaltedBlockAnswersOnlyReads : Prop :=
  ∀ s : State, s.halted = true →
    (∀ i : Instr, i ≠ .readStatus → (∀ c, i ≠ .isSending c) → exec i s = .next s) ∧
    (∀ c, exec (.isSending c) s = .next { s with rsp := some (if (s.chan c).sending then 1#32 else 0#32) }) ∧
    exec .readStatus s = .next { s with rsp := some s.statusWord } ∧
    (∀ (word now : Word) (rest : List HostInput) (e : IllegalWord), s.inputs = .command word now :: rest →
      decode s.params word = .error e →
      step s = .next { s with nowMs := now, inputs := rest, rsp := none, evts := [] }) ∧
    ∀ c, s.finished c = false

/-- 60_exceptions.md R224: the five commands have no effect on an unconfigured slot, and IS_SENDING reads 0. -/
def Obligations.UnconfiguredSlotIgnoresCommands : Prop :=
  ∀ (s : State) (c : Slot), s.Inv → (s.chan c).configured = false →
    (∀ w, exec (.setWpm c w) s = .next s) ∧
    (∀ a d, a.toNat < s.params.msgDepth → exec (.msgWrite c a d) s = .next s) ∧
    (∀ n, n.toNat ≤ s.params.msgDepth → exec (.submit c n) s = .next s) ∧
    exec (.tick c) s = .next s ∧ exec (.stop c) s = .next s ∧
    exec (.isSending c) s = .next { s with rsp := some 0#32 }

/-- 60_exceptions.md R221: which command raises which cause under which condition; only the cause is recorded. -/
def Obligations.FatalErrorsRecordTheirCause : Prop :=
  Cause.none.code = 0#2 ∧ Cause.badKind.code = 1#2 ∧ Cause.wpmZero.code = 2#2 ∧ Cause.duplicate.code = 3#2 ∧
  ∀ (i : Instr) (s : State), s.halted = false →
    (fatalCause s i ≠ .none → exec i s = .next { s with halted := true, cause := fatalCause s i }) ∧
    (fatalCause s i = .none → ∀ t, exec i s = .next t → t.halted = false ∧ t.cause = s.cause)

/-- A command that changes an error bit changes nothing but error bits, and a TICK changes none (60_exceptions.md, precision). -/
def Obligations.ErrorsArePrecise : Prop :=
  ∀ (i : Instr) (s t : State), exec i s = .next t →
    (t.halted ≠ s.halted ∨ t.cause ≠ s.cause ∨ t.ill ≠ s.ill →
      t = { s with halted := t.halted, cause := t.cause, ill := t.ill }) ∧
    ∀ c, i = .tick c → t.halted = s.halted ∧ t.cause = s.cause ∧ t.ill = s.ill

/-! ## CONFIGURE, SET_WPM, MSG_WRITE, SUBMIT, STOP and the reads -/

/-- CONFIGURE executed (43_channel_adapter.md, CONFIGURE), the three fatal tests in their order. -/
def Obligations.ConfigureBindsAFreeSlot : Prop :=
  ∀ (kind : BitVec 2) (id wpm : Byte) (s : State),
    let c : Slot := if kind = 1#2 then .cw else .toggle
    (s.halted = true → exec (.configure kind id wpm) s = .next s) ∧
    (s.halted = false →
      (2 ≤ kind.toNat → exec (.configure kind id wpm) s = .next { s with halted := true, cause := .badKind }) ∧
      (kind.toNat < 2 → wpm = 0x00#8 → exec (.configure kind id wpm) s = .next { s with halted := true, cause := .wpmZero }) ∧
      (kind.toNat < 2 → wpm ≠ 0x00#8 → (s.chan c).configured = true →
        exec (.configure kind id wpm) s = .next { s with halted := true, cause := .duplicate }) ∧
      (kind.toNat < 2 → wpm ≠ 0x00#8 → (s.chan c).configured = false →
        ∃ t, exec (.configure kind id wpm) s = .next t ∧
          t.chan c = { s.chan c with configured := true, id := id, wpm := wpm } ∧
          SameOutside c s t ∧ Silent s t ∧ SameMemory s t))

/-- SET_WPM executed (41_unit_timing.md, SET_WPM). -/
def Obligations.SetWpmChangesOnlyTheRate : Prop :=
  ∀ (c : Slot) (wpm : Byte) (s : State),
    (s.halted = true → exec (.setWpm c wpm) s = .next s) ∧
    (s.halted = false → (s.chan c).configured = false → exec (.setWpm c wpm) s = .next s) ∧
    (s.Live c → wpm = 0x00#8 → exec (.setWpm c wpm) s = .next { s with halted := true, cause := .wpmZero }) ∧
    (s.Live c → wpm ≠ 0x00#8 →
      ∃ t, exec (.setWpm c wpm) s = .next t ∧ t.chan c = { s.chan c with wpm := wpm } ∧
        SameOutside c s t ∧ Silent s t ∧ SameMemory s t)

/-- 41_unit_timing.md R127: SET_WPM in flight leaves the running deadline, a TICK before that deadline changes nothing, and every
deadline a later TICK sets is of the new rate: the gap after an element, the element after a gap, and whatever else it begins. -/
def Obligations.NewRateAppliesFromTheNextDeadline : Prop :=
  ∀ (c : Slot) (wpm : Byte) (s : State), s.Running c → wpm ≠ 0x00#8 →
    let ch := s.chan c
    ∃ t, exec (.setWpm c wpm) s = .next t ∧ (t.chan c).deadline = ch.deadline ∧
      ∀ now : Word,
        (expired now ch.deadline = false → ch.phase = .elemOn ∨ ch.phase = .gapActive →
          exec (.tick c) { t with nowMs := now } = .next { t with nowMs := now }) ∧
        (expired now ch.deadline = true → ch.phase = .elemOn →
          ∃ u, exec (.tick c) { t with nowMs := now } = .next u ∧
            (u.chan c).deadline = now + BitVec.ofNat 32
              (dur (if more ch.pattern (ch.bitIndex + 1#3) = true ∨ ch.digraph = true then 1 else 3) wpm)) ∧
        (expired now ch.deadline = true → ch.phase = .gapActive → more ch.pattern ch.bitIndex = true →
          ∃ u, exec (.tick c) { t with nowMs := now } = .next u ∧
            (u.chan c).deadline = now + BitVec.ofNat 32 (dur (if ch.pattern.getLsbD ch.bitIndex.toNat then 3 else 1) wpm)) ∧
        ∀ u, exec (.tick c) { t with nowMs := now } = .next u →
          (u.chan c).deadline = ch.deadline ∨
            ∃ k, (k = 1 ∨ k = 3 ∨ k = 7) ∧ (u.chan c).deadline = now + BitVec.ofNat 32 (dur k wpm)

/-- 42_automaton.md R145: only the 26 ASCII lower-case letters change, each to the letter 0x20 below. -/
def Obligations.CaseFoldChangesOnlyLowerCase : Prop :=
  ∀ d : Byte,
    ((0x61 ≤ d.toNat ∧ d.toNat ≤ 0x7A) → (foldCase d).toNat = d.toNat - 0x20) ∧
    (¬(0x61 ≤ d.toNat ∧ d.toNat ≤ 0x7A) → foldCase d = d)

/-- MSG_WRITE executed (42_automaton.md, MSG_WRITE); the byte stored to is the one at ADDR of channel c's store. The first clause,
exec of a MSG_WRITE with an ADDR outside the store, is the model's choice (log entry 10): no word decodes to it. -/
def Obligations.MsgWriteStoresTheFoldedByte : Prop :=
  ∀ (c : Slot) (addr data : Byte) (s : State),
    (s.params.msgDepth ≤ addr.toNat →
      exec (.msgWrite c addr data) s = .next { s with ill := if s.halted = false then true else s.ill }) ∧
    (addr.toNat < s.params.msgDepth →
      (s.halted = true → exec (.msgWrite c addr data) s = .next s) ∧
      (s.halted = false → (s.chan c).configured = false → exec (.msgWrite c addr data) s = .next s) ∧
      (s.Live c → (s.chan c).sending = true → exec (.msgWrite c addr data) s = .next s) ∧
      (s.Live c → (s.chan c).sending = false →
        ∃ t, exec (.msgWrite c addr data) s = .next t ∧
          t.byteAt c addr.toNat = foldCase data ∧
          (∀ d a, d ≠ c ∨ a ≠ addr.toNat → t.byteAt d a = s.byteAt d a) ∧
          t.chan c = { s.chan c with msg := (t.chan c).msg } ∧ SameOutside c s t ∧ Silent s t))

/-- SUBMIT executed (42_automaton.md, SUBMIT). The first clause, exec of a SUBMIT with a LEN above MSG_DEPTH, is the model's choice
(log entry 10): no word decodes to it. -/
def Obligations.SubmitPrimesTheChannel : Prop :=
  ∀ (c : Slot) (n : BitVec 9) (s : State),
    (s.params.msgDepth < n.toNat →
      exec (.submit c n) s = .next { s with ill := if s.halted = false then true else s.ill }) ∧
    (n.toNat ≤ s.params.msgDepth →
      (s.halted = true → exec (.submit c n) s = .next s) ∧
      (s.halted = false → (s.chan c).configured = false → exec (.submit c n) s = .next s) ∧
      (s.Live c → (s.chan c).sending = true → exec (.submit c n) s = .next s) ∧
      (s.Live c → (s.chan c).sending = false →
        ∃ t, exec (.submit c n) s = .next t ∧
          t.chan c = { s.chan c with
            len := n, charIndex := 0#9, bitIndex := 0#3, pattern := 0x00#8, digraph := false, phase := .await,
            deadline := s.nowMs, sending := true } ∧
          SameOutside c s t ∧ Silent s t ∧ SameMemory s t))

/-- 42_automaton.md R151: a busy SUBMIT changes no state and issues no event. -/
def Obligations.BusySubmitIsANoOp : Prop :=
  ∀ (c : Slot) (n : BitVec 9) (s : State), n.toNat ≤ s.params.msgDepth → (s.chan c).sending = true →
    exec (.submit c n) s = .next s

/-- STOP executed (42_automaton.md, STOP); the actuator is driven off when it was on. -/
def Obligations.StopIdlesAndDrivesOff : Prop :=
  ∀ (c : Slot) (s : State),
    (s.halted = true → exec (.stop c) s = .next s) ∧
    (s.halted = false → (s.chan c).configured = false → exec (.stop c) s = .next s) ∧
    (s.Live c →
      ∃ t, exec (.stop c) s = .next t ∧
        t.chan c = { s.chan c with
          sending := false, charIndex := 0#9, bitIndex := 0#3, pattern := 0x00#8, digraph := false, phase := .await,
          actOn := false } ∧
        t.evts = s.evts ++
          (if (s.chan c).actOn = false then []
           else if c = .toggle then [.setLevel (s.chan c).id false] else [.disableTone (s.chan c).id]) ∧
        t.rsp = s.rsp ∧ SameOutside c s t ∧ SameMemory s t)

/-- IS_SENDING (42_automaton.md, IS_SENDING) answers the busy bit in every state and changes nothing else. -/
def Obligations.IsSendingReadsTheBusyBit : Prop :=
  ∀ (c : Slot) (s : State),
    exec (.isSending c) s = .next { s with rsp := some (if (s.chan c).sending then 1#32 else 0#32) }

/-- 10_state.md R37: READ_STATUS answers the status word in every state, bit by bit, and changes
nothing else; after reset it reads 0. -/
def Obligations.StatusWordShowsEveryFlag : Prop :=
  (∀ s : State, ∃ w : Word, exec .readStatus s = .next { s with rsp := some w } ∧
    w.getLsbD 0 = s.ch0.sending ∧ w.getLsbD 1 = s.ch1.sending ∧
    w.getLsbD 2 = s.ch0.configured ∧ w.getLsbD 3 = s.ch1.configured ∧
    w.getLsbD 4 = s.ch0.actOn ∧ w.getLsbD 5 = s.ch1.actOn ∧
    w.getLsbD 6 = s.ch0.digraph ∧ w.getLsbD 7 = s.ch1.digraph ∧
    w.getLsbD 8 = s.ill ∧ w.getLsbD 9 = s.halted ∧ w.extractLsb' 10 2 = s.cause.code ∧ w.extractLsb' 12 20 = 0#20) ∧
  exec .readStatus State.reset = .next { State.reset with rsp := some 0x00000000#32 }

/-! ## TICK (42_automaton.md) -/

/-- A TICK on a channel that is not live or not sending, or before the deadline of its phase, changes nothing. -/
def Obligations.EarlyTickChangesNothing : Prop :=
  ∀ (c : Slot) (s : State),
    (s.halted = true ∨ (s.chan c).configured = false ∨ (s.chan c).sending = false ∨
      (((s.chan c).phase = .elemOn ∨ (s.chan c).phase = .gapActive) ∧ expired s.nowMs (s.chan c).deadline = false)) →
    exec (.tick c) s = .next s

/-- The TICK that ends an element drives off, counts the element and schedules its gap. -/
def Obligations.TickEndsAnElement : Prop :=
  ∀ (c : Slot) (s : State), s.Running c → (s.chan c).phase = .elemOn → expired s.nowMs (s.chan c).deadline = true →
    let ch := s.chan c
    let k := if more ch.pattern (ch.bitIndex + 1#3) = true ∨ ch.digraph = true then 1 else 3
    ∃ t, exec (.tick c) s = .next t ∧
      t.chan c = { ch with
        phase := .gapActive, bitIndex := ch.bitIndex + 1#3, deadline := s.nowMs + BitVec.ofNat 32 (dur k ch.wpm),
        actOn := if ch.pattern = 0x01#8 then ch.actOn else false } ∧
      t.evts = s.evts ++ (if ch.pattern = 0x01#8 then [] else requestEvents c ch false) ∧
      t.rsp = s.rsp ∧ SameOutside c s t ∧ SameMemory s t

/-- 42_automaton.md R166: GapActive in full: before the deadline nothing; after it, the next element of the pattern, or AWAIT in
the same TICK. -/
def Obligations.TickEndsAGap : Prop :=
  ∀ (c : Slot) (s : State), s.Running c → (s.chan c).phase = .gapActive →
    let ch := s.chan c
    (expired s.nowMs ch.deadline = false → exec (.tick c) s = .next s) ∧
    (expired s.nowMs ch.deadline = true → more ch.pattern ch.bitIndex = false →
      exec (.tick c) s =
        exec (.tick c) (s.setChan c { ch with bitIndex := 0#3, charIndex := ch.charIndex + 1#9, phase := .await })) ∧
    (expired s.nowMs ch.deadline = true → more ch.pattern ch.bitIndex = true →
      ∃ t, exec (.tick c) s = .next t ∧
        t.chan c = { ch with
          phase := .elemOn, actOn := true,
          deadline := s.nowMs + BitVec.ofNat 32 (dur (if ch.pattern.getLsbD ch.bitIndex.toNat then 3 else 1) ch.wpm) } ∧
        t.evts = s.evts ++ requestEvents c ch true ∧ t.rsp = s.rsp ∧ SameOutside c s t ∧ SameMemory s t)

/-- 42_automaton.md R162: one AWAIT pass: the message ends, a control character is consumed and AWAIT goes on in the same TICK, or
a character is loaded and its first element (or the word-space hold) begins. -/
def Obligations.AwaitReadsTheNextCharacter : Prop :=
  ∀ (c : Slot) (s : State), s.Running c → (s.chan c).phase = .await →
    let ch := s.chan c
    let b := s.byteAt c ch.charIndex.toNat
    (ch.charIndex = ch.len →
      ∃ t, exec (.tick c) s = .next t ∧
        t.chan c = { ch with
          sending := false, charIndex := 0#9, bitIndex := 0#3, pattern := 0x00#8, digraph := false, phase := .await } ∧
        SameOutside c s t ∧ Silent s t ∧ SameMemory s t) ∧
    (ch.charIndex ≠ ch.len → ch.charIndex.toNat < s.params.msgDepth →
      (b = 0x7E#8 → exec (.tick c) s = exec (.tick c) (s.setChan c { ch with charIndex := ch.charIndex + 1#9 })) ∧
      (b = 0x60#8 →
        exec (.tick c) s =
          exec (.tick c) (s.setChan c { ch with digraph := !ch.digraph, charIndex := ch.charIndex + 1#9 })) ∧
      (b ≠ 0x7E#8 → b ≠ 0x60#8 →
        let p := romRead s.params.notFoundCode b
        ∃ t, exec (.tick c) s = .next t ∧
          (p = 0x01#8 →
            t.chan c = { ch with
              pattern := p, bitIndex := 0#3, phase := .elemOn,
              deadline := s.nowMs + BitVec.ofNat 32 (dur 7 ch.wpm) } ∧
            t.evts = s.evts) ∧
          (p ≠ 0x01#8 →
            t.chan c = { ch with
              pattern := p, bitIndex := 0#3, phase := .elemOn, actOn := true,
              deadline := s.nowMs + BitVec.ofNat 32 (dur (if p.getLsbD 0 then 3 else 1) ch.wpm) } ∧
            t.evts = s.evts ++ requestEvents c ch true) ∧
          t.rsp = s.rsp ∧ SameOutside c s t ∧ SameMemory s t))

/-- In every sound state TICK answers a next state: it never faults and never refuses. -/
def Obligations.TickNeverStops : Prop :=
  ∀ (c : Slot) (s : State), s.Inv → ∃ t, exec (.tick c) s = .next t

/-- 41_unit_timing.md R131: a TICK exactly at the deadline completes the phase in that same TICK: the element, and in a sound
state the gap. -/
def Obligations.TickAtTheDeadlineCompletes : Prop :=
  (∀ dl : Word, expired dl dl = true) ∧
  (∀ (c : Slot) (s : State), s.Running c → (s.chan c).phase = .elemOn → s.nowMs = (s.chan c).deadline →
    ∃ t, exec (.tick c) s = .next t ∧ (t.chan c).phase = .gapActive) ∧
  ∀ (c : Slot) (s : State), s.Inv → s.Running c → (s.chan c).phase = .gapActive → s.nowMs = (s.chan c).deadline →
    ∃ t, exec (.tick c) s = .next t ∧ (t.chan c).phase ≠ .gapActive

/-- A second TICK on a channel at the same time changes nothing. -/
def Obligations.SecondTickAtOneTimeChangesNothing : Prop :=
  ∀ (c : Slot) (s t : State), s.Inv → exec (.tick c) s = .next t → exec (.tick c) t = .next t

/-- A whole run of control characters is consumed in one TICK, which ends with the first other character loaded and its first
element (or the word-space hold) begun or, at the end of the message, idle; digraph mode is inverted once for each backtick. -/
def Obligations.OneTickConsumesAControlRun : Prop :=
  ∀ (c : Slot) (s : State) (k : Nat), s.Running c → (s.chan c).phase = .await →
    let ch := s.chan c
    let a := ch.charIndex.toNat
    let b := s.byteAt c (a + k)
    let p := romRead s.params.notFoundCode b
    ch.len.toNat ≤ s.params.msgDepth → (∀ j < k, isControl (s.byteAt c (a + j)) = true) →
    (a + k < ch.len.toNat → isControl b = false →
      ∃ t, exec (.tick c) s = .next t ∧
        t.chan c = { ch with
          charIndex := BitVec.ofNat 9 (a + k), digraph := ch.digraph ^^ decide (backticks s c a k % 2 = 1), pattern := p,
          bitIndex := 0#3, phase := .elemOn, actOn := if p = 0x01#8 then ch.actOn else true,
          deadline := s.nowMs +
            BitVec.ofNat 32 (dur (if p = 0x01#8 then 7 else if p.getLsbD 0 = true then 3 else 1) ch.wpm) } ∧
        t.evts = s.evts ++ (if p = 0x01#8 then [] else requestEvents c ch true) ∧
        t.rsp = s.rsp ∧ SameOutside c s t ∧ SameMemory s t) ∧
    (a + k = ch.len.toNat →
      ∃ t, exec (.tick c) s = .next t ∧
        t.chan c = { ch with
          sending := false, charIndex := 0#9, bitIndex := 0#3, pattern := 0x00#8, digraph := false, phase := .await } ∧
        SameOutside c s t ∧ Silent s t ∧ SameMemory s t)

/-- 42_automaton.md R182: a message of control characters only, or of no bytes, goes idle in the first TICK after its SUBMIT and
issues no event; between the two `sending` is 1. -/
def Obligations.ControlOnlyMessageEndsAtOnce : Prop :=
  ∀ (c : Slot) (s : State) (n : BitVec 9) (now : Word), s.Live c → (s.chan c).sending = false →
    n.toNat ≤ s.params.msgDepth → (∀ a < n.toNat, isControl (s.byteAt c a) = true) →
    ∃ t u, exec (.submit c n) s = .next t ∧ (t.chan c).sending = true ∧ t.evts = s.evts ∧
      exec (.tick c) { t with nowMs := now } = .next u ∧ (u.chan c).sending = false ∧ u.evts = s.evts

/-- Digraph mode (42_automaton.md, digraph) chooses the gap at the end of a character and nothing else: with the mode set either way a
TICK gives the same state but for the mode itself, unless it ends the last element of a character; there it makes the gap 1
unit in place of 3. -/
def Obligations.DigraphChoosesOnlyTheLastGap : Prop :=
  ∀ (c : Slot) (s : State),
    let last := (s.chan c).phase = .elemOn ∧ more (s.chan c).pattern ((s.chan c).bitIndex + 1#3) = false
    let erase := fun t : State => t.setChan c { t.chan c with digraph := false }
    (¬last → ∀ d : Bool,
      mapNext erase (exec (.tick c) (s.setChan c { s.chan c with digraph := d })) = mapNext erase (exec (.tick c) s)) ∧
    (last → s.Running c → expired s.nowMs (s.chan c).deadline = true →
      ∃ t, exec (.tick c) s = .next t ∧
        (t.chan c).deadline = s.nowMs + BitVec.ofNat 32 (dur (if (s.chan c).digraph then 1 else 3) (s.chan c).wpm))

/-- 42_automaton.md R169: after the last element of a message the channel goes on sending through one gap, 3 units or 1 in digraph
mode, and goes idle at the first TICK at or past its deadline. -/
def Obligations.LastCharacterKeepsItsTrailingGap : Prop :=
  ∀ (c : Slot) (s : State), s.Running c → (s.chan c).phase = .elemOn → expired s.nowMs (s.chan c).deadline = true →
    more (s.chan c).pattern ((s.chan c).bitIndex + 1#3) = false → (s.chan c).charIndex + 1#9 = (s.chan c).len →
    ∃ t, exec (.tick c) s = .next t ∧ (t.chan c).sending = true ∧
      (t.chan c).deadline = s.nowMs + BitVec.ofNat 32 (dur (if (s.chan c).digraph then 1 else 3) (s.chan c).wpm) ∧
      ∀ now : Word,
        (expired now (t.chan c).deadline = false → exec (.tick c) { t with nowMs := now } = .next { t with nowMs := now }) ∧
        (expired now (t.chan c).deadline = true →
          ∃ u, exec (.tick c) { t with nowMs := now } = .next u ∧ (u.chan c).sending = false ∧ u.evts = t.evts)

/-- A character is sent as its elements: ticked at each deadline, the j-th on interval of a tone character lasts 3 units if
element j is a dah, else 1 unit, from the time the channel is ticked on to the time it is ticked off. -/
def Obligations.PromptTicksSendEveryElement : Prop :=
  ∀ (c : Slot) (s : State), s.Inv → s.Running c → (s.chan c).phase = .elemOn → (s.chan c).bitIndex = 0#3 →
    (s.chan c).pattern ≠ 0x01#8 →
    (s.chan c).deadline =
      s.nowMs + BitVec.ofNat 32 (dur (if (s.chan c).pattern.getLsbD 0 then 3 else 1) (s.chan c).wpm) →
    ∀ j < nelem (s.chan c).pattern, ∃ t u,
      promptTicks c s (2 * j) = .next t ∧ promptTicks c s (2 * j + 1) = .next u ∧
      (t.chan c).actOn = true ∧ (t.chan c).pattern = (s.chan c).pattern ∧ (t.chan c).bitIndex.toNat = j ∧
      (t.chan c).deadline =
        t.nowMs + BitVec.ofNat 32 (dur (if (s.chan c).pattern.getLsbD j then 3 else 1) (s.chan c).wpm) ∧
      u.nowMs = (t.chan c).deadline ∧ (u.chan c).actOn = false

/-- A space outside digraph mode is 7 + 3 units of silence: a hold with no event, then the gap with none. -/
def Obligations.SpaceIsASilentHoldAndGap : Prop :=
  ∀ (c : Slot) (s : State), s.Running c → (s.chan c).phase = .await → (s.chan c).digraph = false →
    (s.chan c).charIndex ≠ (s.chan c).len → (s.chan c).charIndex.toNat < s.params.msgDepth →
    s.byteAt c (s.chan c).charIndex.toNat = 0x20#8 →
    let hold := s.nowMs + BitVec.ofNat 32 (dur 7 (s.chan c).wpm)
    ∃ t u, exec (.tick c) s = .next t ∧ t.evts = s.evts ∧ (t.chan c).actOn = (s.chan c).actOn ∧
      (t.chan c).phase = .elemOn ∧ (t.chan c).deadline = hold ∧
      promptTicks c t 1 = .next u ∧ u.evts = s.evts ∧ (u.chan c).actOn = (s.chan c).actOn ∧
      (u.chan c).phase = .gapActive ∧ (u.chan c).deadline = hold + BitVec.ofNat 32 (dur 3 (s.chan c).wpm)

/-- 42_automaton.md R181: a submitted message ends: TICKs at strictly increasing times at most 2^31 - 1 ms apart never stop and
leave the channel idle after finitely many. -/
def Obligations.TransmissionEnds : Prop :=
  ∀ (c : Slot) (s : State) (n : BitVec 9) (τ : Nat → Nat), s.Inv → s.Live c → (s.chan c).sending = false →
    n.toNat ≤ s.params.msgDepth → (∀ k, τ k < τ (k + 1) ∧ τ (k + 1) - τ k ≤ 2 ^ 31 - 1) →
    ∃ s₀, exec (.submit c n) s = .next s₀ ∧ (s₀.chan c).sending = true ∧
      ∃ k t, ticksAt c τ s₀ k = .next t ∧ (t.chan c).sending = false

/-! ## Timing and the ROM (41_unit_timing.md, 40_code_rom.md) -/

/-- 41_unit_timing.md R123: DUR is the exact ceiling of k * 1200 / w and lies between 5 and 8400 for k in 1, 3, 7. -/
def Obligations.DurationIsTheExactCeiling : Prop :=
  ∀ (k : Nat) (w : Byte), (k = 1 ∨ k = 3 ∨ k = 7) → w ≠ 0x00#8 →
    dur k w = (k * 1200 + w.toNat - 1) / w.toNat ∧
    (∀ n : Nat, dur k w ≤ n ↔ k * 1200 ≤ n * w.toNat) ∧ 5 ≤ dur k w ∧ dur k w ≤ 8400 ∧ dur k w < 2 ^ 14

/-- 41_unit_timing.md R133: the durations at the sample rates. -/
def Obligations.DurationsAtSampleRates : Prop :=
  ∀ x ∈ ([(1, 1200, 3600, 8400), (5, 240, 720, 1680), (7, 172, 515, 1200), (13, 93, 277, 647), (15, 80, 240, 560),
      (20, 60, 180, 420), (25, 48, 144, 336), (240, 5, 15, 35), (255, 5, 15, 33)] : List (Nat × Nat × Nat × Nat)),
    dur 1 (BitVec.ofNat 8 x.1) = x.2.1 ∧ dur 3 (BitVec.ofNat 8 x.1) = x.2.2.1 ∧ dur 7 (BitVec.ofNat 8 x.1) = x.2.2.2

/-- 41_unit_timing.md R125: the expiry test: bit 31 of the difference; on an unbounded time line it is `now >= dl` for times less
than 2^31 ms apart, across any wrap and for a clock that stepped back; more than 2^31 - 1 ms late reads as not expired. -/
def Obligations.ExpiryTestFollowsTheTimeLine : Prop :=
  (∀ now dl : Word, expired now dl = true ↔ (now - dl).getLsbD 31 = false) ∧
  ∀ t d : Nat, let e := expired (BitVec.ofNat 32 t) (BitVec.ofNat 32 d)
    (d ≤ t → t - d ≤ 2 ^ 31 - 1 → e = true) ∧ (t < d → d - t ≤ 2 ^ 31 - 1 → e = false) ∧
    (d ≤ t → 2 ^ 31 ≤ t - d → t - d < 2 ^ 32 → e = false)

/-- The elements of every pattern are the Morse column of 40_code_rom.md R105, whose sequences the spec marks 'from general
knowledge, not in source' (log entry 17); space is the word-space sentinel; the 55 patterns are pairwise distinct and none is
0x00 or 0x80. -/
def Obligations.RomHoldsTheMorseTable : Prop :=
  (∀ nf : Byte, ∀ x ∈ morseColumn, elements (romRead nf x.1) = x.2) ∧ (∀ nf : Byte, romRead nf 0x20#8 = 0x01#8) ∧
  (0x20#8 :: morseColumn.map (·.1)).length = 55 ∧
  ((0x20#8 :: morseColumn.map (·.1)).map (romRead 0x80#8)).Nodup ∧
  ∀ x ∈ 0x20#8 :: morseColumn.map (·.1), romRead 0x80#8 x ≠ 0x00#8 ∧ romRead 0x80#8 x ≠ 0x80#8

/-- Every code without an entry in the table of 40_code_rom.md R105 (the spec's own from general knowledge, log entry 17) holds
NOT_FOUND_CODE, 201 codes, and every other code holds its entry. -/
def Obligations.OtherCodesHoldNotFoundCode : Prop :=
  (∀ ch : Byte,
    (∀ nf, romRead nf ch = nf) ↔
      (ch.toNat ≤ 0x1F ∨ ch = 0x23#8 ∨ ch = 0x25#8 ∨ ch = 0x2A#8 ∨ ch = 0x3C#8 ∨ ch = 0x3E#8 ∨
        (0x5B ≤ ch.toNat ∧ ch.toNat ≤ 0x5E) ∨ 0x60 ≤ ch.toNat)) ∧
  (∀ nf, romRead nf 0x20#8 = 0x01#8) ∧ (∀ nf, ∀ x ∈ morseColumn, elements (romRead nf x.1) = x.2) ∧
  ((List.range 256).filter fun n => romRead 0x80#8 (BitVec.ofNat 8 n) == 0x80#8).length = 201

/-- `more` (40_code_rom.md, element functions) is true exactly while elements remain, and the sentinel is the highest set bit. -/
def Obligations.MoreMeansElementsRemain : Prop :=
  ∀ (p : Byte), p ≠ 0x00#8 →
    nelem p ≤ 7 ∧ p.getLsbD (nelem p) = true ∧ (∀ n, nelem p < n → p.getLsbD n = false) ∧
    ∀ i : BitVec 3, more p i = true ↔ i.toNat < nelem p

/-- drive (43_channel_adapter.md, drive) on the toggle kind always sets and reports the level; on the continuous-wave kind only a
change of level. -/
def Obligations.DriveSkipsOnlyRedundantTones : Prop :=
  ∀ (c : Slot) (on : Bool) (s : State),
    (s.drive c on).chan c = { s.chan c with actOn := on } ∧ SameOutside c s (s.drive c on) ∧
    (s.drive c on).rsp = s.rsp ∧ SameMemory s (s.drive c on) ∧
    (c = .toggle → (s.drive c on).evts = s.evts ++ [.setLevel (s.chan c).id on]) ∧
    (c = .cw → on = (s.chan c).actOn → s.drive c on = s) ∧
    (c = .cw → on ≠ (s.chan c).actOn →
      (s.drive c on).evts = s.evts ++ [if on then .enableTone (s.chan c).id else .disableTone (s.chan c).id])

/-! ## The whole machine -/

/-- A command issues at most one event, and the event ports and the level ports carry the same
information. -/
def Obligations.EventAndLevelPortsAgree : Prop :=
  ∀ s t : State, step s = .next t →
    t.evts.length ≤ 1 ∧
    (∀ e ∈ t.evts, ∃ c, e.id = (t.chan c).id ∧
      (c = .toggle → e.op = 0#2 ∧ e.level = (t.chan c).actOn) ∧
      (c = .cw → e.level = false ∧ e.op = if (t.chan c).actOn then 1#2 else 2#2)) ∧
    t.keyLevel = (t.chan .toggle).actOn ∧ t.keyId = (t.chan .toggle).id ∧ t.cwEnable = (t.chan .cw).actOn ∧
    t.cwId = (t.chan .cw).id

/-- Every register has its writers: what each command may change in a channel and in the global registers. -/
def Obligations.EveryRegisterHasItsWriters : Prop :=
  ∀ (i : Instr) (s t : State), exec i s = .next t →
    (∀ c, ((t.chan c).configured ≠ (s.chan c).configured ∨ (t.chan c).id ≠ (s.chan c).id →
        ∃ kind id wpm, i = .configure kind id wpm ∧ slotOfKind kind = some c) ∧
      ((t.chan c).wpm ≠ (s.chan c).wpm →
        (∃ kind id wpm, i = .configure kind id wpm ∧ slotOfKind kind = some c) ∨ ∃ wpm, i = .setWpm c wpm) ∧
      ((t.chan c).len ≠ (s.chan c).len → ∃ n, i = .submit c n) ∧
      ((t.chan c).sending = true → (s.chan c).sending = false → ∃ n, i = .submit c n) ∧
      ((t.chan c).sending = false → (s.chan c).sending = true → i = .tick c ∨ i = .stop c) ∧
      ((t.chan c).charIndex ≠ (s.chan c).charIndex ∨ (t.chan c).bitIndex ≠ (s.chan c).bitIndex ∨
        (t.chan c).pattern ≠ (s.chan c).pattern ∨ (t.chan c).digraph ≠ (s.chan c).digraph ∨
        (t.chan c).phase ≠ (s.chan c).phase → (∃ n, i = .submit c n) ∨ i = .tick c ∨ i = .stop c) ∧
      ((t.chan c).deadline ≠ (s.chan c).deadline → (∃ n, i = .submit c n) ∨ i = .tick c) ∧
      ((t.chan c).actOn ≠ (s.chan c).actOn → i = .tick c ∨ i = .stop c) ∧
      (∀ a, t.byteAt c a ≠ s.byteAt c a → ∃ addr data, i = .msgWrite c addr data ∧ addr.toNat = a)) ∧
    (t.halted ≠ s.halted ∨ t.cause ≠ s.cause →
      (∃ kind id wpm, i = .configure kind id wpm) ∨ ∃ c wpm, i = .setWpm c wpm) ∧
    (t.ill ≠ s.ill → i.wf s.params = false) ∧
    (t.rsp ≠ s.rsp → (∃ c, i = .isSending c) ∨ i = .readStatus) ∧
    (t.evts ≠ s.evts → ∃ c, i = .tick c ∨ i = .stop c) ∧
    t.nowMs = s.nowMs ∧ t.inputs = s.inputs ∧ t.resets = s.resets ∧ t.params = s.params

/-- A message byte changes only by a MSG_WRITE to a channel that does not send, at its address, and then to the folded data; so
the text of a transmission stays what it was at its SUBMIT. -/
def Obligations.OnlyAnIdleMsgWriteChangesAByte : Prop :=
  ∀ (s t : State), s.NoReset → step s = .next t → ∀ (c : Slot) (a : Nat), t.byteAt c a ≠ s.byteAt c a →
    (s.chan c).sending = false ∧ ∃ word now rest addr data, s.inputs = .command word now :: rest ∧
      decode s.params word = .ok (.msgWrite c addr data) ∧ addr.toNat = a ∧ t.byteAt c a = foldCase data

/-- 20_memory.md R61: a command addressed to one channel neither changes the other channel nor depends on it. -/
def Obligations.ChannelsAreIndependent : Prop :=
  ∀ (i : Instr) (c : Slot) (s : State), slotOf i = some c →
    (∀ t, exec i s = .next t → t.chan (otherSlot c) = s.chan (otherSlot c)) ∧
    ∀ o : Channel,
      exec i (s.setChan (otherSlot c) o) = mapNext (fun t => t.setChan (otherSlot c) o) (exec i s)

/-- The state after reset is sound. -/
def Obligations.ResetMeetsInvariant : Prop := State.reset.Inv

/-- Every step keeps the invariant: among its parts 10_state.md R39 and R40, 43_channel_adapter.md R197, the bounds of 10_state.md
R26 to R28, 41_unit_timing.md R120 and the canonical form of the stores. -/
def Obligations.StepKeepsInvariant : Prop := ∀ s t : State, s.Inv → step s = .next t → t.Inv

/-- From a sound state every step answers a next state: no fault and no refusal is ever reached. -/
def Obligations.SoundStatesNeverStop : Prop := ∀ s : State, s.Inv → ∃ t, step s = .next t
end

