-- ==== Sys2Proof/Laws/Encoding.lean ====
section
/-! SUPPORT. Fields of a word that is written as a chain of fields, for the decoder against the encoder
(30_encoding.md R70 to R81). Each lemma holds for every width, so that it applies to the 32-bit chains as they stand. -/

namespace Sys2Proof.Laws

/-- A field inside the low part of a chain. -/
theorem field_low {n m : Nat} (x : BitVec n) (y : BitVec m) (k l : Nat) (h : k + l ≤ m) :
    (x ++ y).extractLsb' k l = y.extractLsb' k l := by
  ext i hi; simp [BitVec.getLsbD_append]; omega

/-- A field inside the high part of a chain. -/
theorem field_high {n m : Nat} (x : BitVec n) (y : BitVec m) (k l : Nat) :
    (x ++ y).extractLsb' (m + k) l = x.extractLsb' k l := by
  ext i hi; simp [BitVec.getLsbD_append]; rw [if_neg (by omega)]; congr 1; omega

/-- A field that is a whole part. -/
theorem field_all {n : Nat} (x : BitVec n) : x.extractLsb' 0 n = x := by simp

/-- A bit of the high part of a chain. -/
theorem bit_high {n m : Nat} (x : BitVec n) (y : BitVec m) (k : Nat) : (x ++ y).getLsbD (m + k) = x.getLsbD k := by
  simp [BitVec.getLsbD_append]

/-- A bit of the low part of a chain. -/
theorem bit_low {n m : Nat} (x : BitVec n) (y : BitVec m) (k : Nat) (h : k < m) : (x ++ y).getLsbD k = y.getLsbD k := by
  simp [BitVec.getLsbD_append, h]

/-- Two neighbouring fields are one field. -/
theorem field_join {k : Nat} (w : BitVec k) (n m s : Nat) :
    w.extractLsb' (s + m) n ++ w.extractLsb' s m = w.extractLsb' s (n + m) := by
  ext i hi; simp [BitVec.getElem_append]; intro h; congr 1; omega

/-- A field that lies in the reserved mask of a legal word is 0 (30_encoding.md R81). -/
theorem field_of_reservedClear {w r : Word} (h : reservedClear w r = true) (s l : Nat)
    (hr : r.extractLsb' s l = BitVec.allOnes l) : w.extractLsb' s l = 0#l := by
  have hw : w &&& r = 0#32 := by simpa [reservedClear] using h
  have hf : (w &&& r).extractLsb' s l = 0#l := by rw [hw]; ext i hi; simp
  rw [BitVec.extractLsb'_and, hr] at hf
  simpa using hf

/-- The CH bit of the slot that a word selects is the word's bit 27 (30_encoding.md R71). -/
theorem bit_chField (w : Word) : (chField w).bit = w.extractLsb' 27 1 := by
  have e : w.extractLsb' 27 1 = BitVec.ofBool (w.getLsbD 27) := by
    ext i hi
    obtain rfl : i = 0 := by omega
    simp
  rw [e]; unfold chField; cases w.getLsbD 27 <;> rfl

/-- A slot is the one its CH bit selects (30_encoding.md R71). -/
theorem ofBit_bit (c : Slot) : Slot.ofBit (c.bit.getLsbD 0) = c := by cases c <;> rfl

/-- OP from its number. -/
theorem opField_eq {w : Word} {n : Nat} (h : (opField w).toNat = n) : opField w = BitVec.ofNat 4 n := by
  rw [← h]; simp

end Sys2Proof.Laws
end

