-- ==== Sys2Proof/Laws/State.lean ====
section
/-! SUPPORT. One lemma for each field of each update of State and Channel, so that no proof unfolds a record update. -/

namespace Sys2Proof.Machine

@[simp] theorem otherSlot_toggle : otherSlot .toggle = .cw := rfl
@[simp] theorem otherSlot_cw : otherSlot .cw = .toggle := rfl
@[simp] theorem otherSlot_otherSlot (c : Slot) : otherSlot (otherSlot c) = c := by cases c <;> rfl
theorem otherSlot_ne (c : Slot) : otherSlot c ≠ c := by cases c <;> decide
theorem eq_or_eq_otherSlot (c d : Slot) : d = c ∨ d = otherSlot c := by cases c <;> cases d <;> decide

/-! ## chan and setChan -/

theorem State.chan_toggle (s : State) : s.chan .toggle = s.ch0 := rfl
theorem State.chan_cw (s : State) : s.chan .cw = s.ch1 := rfl
@[simp] theorem State.now_eq (s : State) : s.now = s.nowMs := rfl
@[simp] theorem State.chan_setChan (s : State) (c : Slot) (ch : Channel) : (s.setChan c ch).chan c = ch := by
  cases c <;> rfl
@[simp] theorem State.chan_setChan_other (s : State) (c : Slot) (ch : Channel) :
    (s.setChan c ch).chan (otherSlot c) = s.chan (otherSlot c) := by cases c <;> rfl
@[simp] theorem State.chan_setChan_other' (s : State) (c : Slot) (ch : Channel) :
    (s.setChan (otherSlot c) ch).chan c = s.chan c := by cases c <;> rfl
@[simp] theorem State.setChan_setChan (s : State) (c : Slot) (x y : Channel) :
    (s.setChan c x).setChan c y = s.setChan c y := by cases c <;> rfl
@[simp] theorem State.setChan_chan (s : State) (c : Slot) : s.setChan c (s.chan c) = s := by cases c <;> rfl
theorem State.setChan_comm (s : State) (c : Slot) (x y : Channel) :
    (s.setChan c x).setChan (otherSlot c) y = (s.setChan (otherSlot c) y).setChan c x := by cases c <;> rfl
@[simp] theorem State.chan_mapChan (s : State) (c : Slot) (f : Channel → Channel) :
    (s.mapChan c f).chan c = f (s.chan c) := by cases c <;> rfl
@[simp] theorem State.chan_mapChan_other (s : State) (c : Slot) (f : Channel → Channel) :
    (s.mapChan c f).chan (otherSlot c) = s.chan (otherSlot c) := by cases c <;> rfl
@[simp] theorem State.mapChan_mapChan (s : State) (c : Slot) (f g : Channel → Channel) :
    (s.mapChan c f).mapChan c g = s.mapChan c (fun ch => g (f ch)) := by cases c <;> rfl

@[simp] theorem State.setChan_halted (s : State) (c : Slot) (ch : Channel) : (s.setChan c ch).halted = s.halted := by cases c <;> rfl
@[simp] theorem State.setChan_cause (s : State) (c : Slot) (ch : Channel) : (s.setChan c ch).cause = s.cause := by cases c <;> rfl
@[simp] theorem State.setChan_ill (s : State) (c : Slot) (ch : Channel) : (s.setChan c ch).ill = s.ill := by cases c <;> rfl
@[simp] theorem State.setChan_rsp (s : State) (c : Slot) (ch : Channel) : (s.setChan c ch).rsp = s.rsp := by cases c <;> rfl
@[simp] theorem State.setChan_evts (s : State) (c : Slot) (ch : Channel) : (s.setChan c ch).evts = s.evts := by cases c <;> rfl
@[simp] theorem State.setChan_nowMs (s : State) (c : Slot) (ch : Channel) : (s.setChan c ch).nowMs = s.nowMs := by cases c <;> rfl
@[simp] theorem State.setChan_inputs (s : State) (c : Slot) (ch : Channel) : (s.setChan c ch).inputs = s.inputs := by cases c <;> rfl
@[simp] theorem State.setChan_resets (s : State) (c : Slot) (ch : Channel) : (s.setChan c ch).resets = s.resets := by cases c <;> rfl
@[simp] theorem State.setChan_params (s : State) (c : Slot) (ch : Channel) : (s.setChan c ch).params = s.params := by cases c <;> rfl
@[simp] theorem State.mapChan_halted (s : State) (c : Slot) (f : Channel → Channel) : (s.mapChan c f).halted = s.halted := by
  cases c <;> rfl
@[simp] theorem State.mapChan_cause (s : State) (c : Slot) (f : Channel → Channel) : (s.mapChan c f).cause = s.cause := by
  cases c <;> rfl
@[simp] theorem State.mapChan_ill (s : State) (c : Slot) (f : Channel → Channel) : (s.mapChan c f).ill = s.ill := by
  cases c <;> rfl
@[simp] theorem State.mapChan_rsp (s : State) (c : Slot) (f : Channel → Channel) : (s.mapChan c f).rsp = s.rsp := by
  cases c <;> rfl
@[simp] theorem State.mapChan_evts (s : State) (c : Slot) (f : Channel → Channel) : (s.mapChan c f).evts = s.evts := by
  cases c <;> rfl
@[simp] theorem State.mapChan_nowMs (s : State) (c : Slot) (f : Channel → Channel) : (s.mapChan c f).nowMs = s.nowMs := by
  cases c <;> rfl
@[simp] theorem State.mapChan_inputs (s : State) (c : Slot) (f : Channel → Channel) : (s.mapChan c f).inputs = s.inputs := by
  cases c <;> rfl
@[simp] theorem State.mapChan_resets (s : State) (c : Slot) (f : Channel → Channel) : (s.mapChan c f).resets = s.resets := by
  cases c <;> rfl
@[simp] theorem State.mapChan_params (s : State) (c : Slot) (f : Channel → Channel) : (s.mapChan c f).params = s.params := by
  cases c <;> rfl

/-! ## The other updates of State -/

@[simp] theorem State.raiseFatal_ch0 (s : State) (k : Cause) : (s.raiseFatal k).ch0 = s.ch0 := rfl
@[simp] theorem State.raiseFatal_ch1 (s : State) (k : Cause) : (s.raiseFatal k).ch1 = s.ch1 := rfl
@[simp] theorem State.raiseFatal_halted (s : State) (k : Cause) : (s.raiseFatal k).halted = true := rfl
@[simp] theorem State.raiseFatal_cause (s : State) (k : Cause) : (s.raiseFatal k).cause = k := rfl
@[simp] theorem State.raiseFatal_ill (s : State) (k : Cause) : (s.raiseFatal k).ill = s.ill := rfl
@[simp] theorem State.raiseFatal_rsp (s : State) (k : Cause) : (s.raiseFatal k).rsp = s.rsp := rfl
@[simp] theorem State.raiseFatal_evts (s : State) (k : Cause) : (s.raiseFatal k).evts = s.evts := rfl
@[simp] theorem State.raiseFatal_nowMs (s : State) (k : Cause) : (s.raiseFatal k).nowMs = s.nowMs := rfl
@[simp] theorem State.raiseFatal_inputs (s : State) (k : Cause) : (s.raiseFatal k).inputs = s.inputs := rfl
@[simp] theorem State.raiseFatal_resets (s : State) (k : Cause) : (s.raiseFatal k).resets = s.resets := rfl
@[simp] theorem State.raiseFatal_params (s : State) (k : Cause) : (s.raiseFatal k).params = s.params := rfl
@[simp] theorem State.quiet_ch0 (s : State) : (s.quiet).ch0 = s.ch0 := rfl
@[simp] theorem State.quiet_ch1 (s : State) : (s.quiet).ch1 = s.ch1 := rfl
@[simp] theorem State.quiet_halted (s : State) : (s.quiet).halted = s.halted := rfl
@[simp] theorem State.quiet_cause (s : State) : (s.quiet).cause = s.cause := rfl
@[simp] theorem State.quiet_ill (s : State) : (s.quiet).ill = s.ill := rfl
@[simp] theorem State.quiet_rsp (s : State) : (s.quiet).rsp = none := rfl
@[simp] theorem State.quiet_evts (s : State) : (s.quiet).evts = [] := rfl
@[simp] theorem State.quiet_nowMs (s : State) : (s.quiet).nowMs = s.nowMs := rfl
@[simp] theorem State.quiet_inputs (s : State) : (s.quiet).inputs = s.inputs := rfl
@[simp] theorem State.quiet_resets (s : State) : (s.quiet).resets = s.resets := rfl
@[simp] theorem State.quiet_params (s : State) : (s.quiet).params = s.params := rfl
@[simp] theorem State.accept_ch0 (s : State) (now : Word) (rest : List HostInput) : (s.accept now rest).ch0 = s.ch0 := rfl
@[simp] theorem State.accept_ch1 (s : State) (now : Word) (rest : List HostInput) : (s.accept now rest).ch1 = s.ch1 := rfl
@[simp] theorem State.accept_halted (s : State) (now : Word) (rest : List HostInput) : (s.accept now rest).halted = s.halted := rfl
@[simp] theorem State.accept_cause (s : State) (now : Word) (rest : List HostInput) : (s.accept now rest).cause = s.cause := rfl
@[simp] theorem State.accept_ill (s : State) (now : Word) (rest : List HostInput) : (s.accept now rest).ill = s.ill := rfl
@[simp] theorem State.accept_rsp (s : State) (now : Word) (rest : List HostInput) : (s.accept now rest).rsp = none := rfl
@[simp] theorem State.accept_evts (s : State) (now : Word) (rest : List HostInput) : (s.accept now rest).evts = [] := rfl
@[simp] theorem State.accept_nowMs (s : State) (now : Word) (rest : List HostInput) : (s.accept now rest).nowMs = now := rfl
@[simp] theorem State.accept_inputs (s : State) (now : Word) (rest : List HostInput) : (s.accept now rest).inputs = rest := rfl
@[simp] theorem State.accept_resets (s : State) (now : Word) (rest : List HostInput) : (s.accept now rest).resets = s.resets := rfl
@[simp] theorem State.accept_params (s : State) (now : Word) (rest : List HostInput) : (s.accept now rest).params = s.params := rfl
@[simp] theorem State.respond_ch0 (s : State) (v : Word) : (s.respond v).ch0 = s.ch0 := rfl
@[simp] theorem State.respond_ch1 (s : State) (v : Word) : (s.respond v).ch1 = s.ch1 := rfl
@[simp] theorem State.respond_halted (s : State) (v : Word) : (s.respond v).halted = s.halted := rfl
@[simp] theorem State.respond_cause (s : State) (v : Word) : (s.respond v).cause = s.cause := rfl
@[simp] theorem State.respond_ill (s : State) (v : Word) : (s.respond v).ill = s.ill := rfl
@[simp] theorem State.respond_rsp (s : State) (v : Word) : (s.respond v).rsp = some v := rfl
@[simp] theorem State.respond_evts (s : State) (v : Word) : (s.respond v).evts = s.evts := rfl
@[simp] theorem State.respond_nowMs (s : State) (v : Word) : (s.respond v).nowMs = s.nowMs := rfl
@[simp] theorem State.respond_inputs (s : State) (v : Word) : (s.respond v).inputs = s.inputs := rfl
@[simp] theorem State.respond_resets (s : State) (v : Word) : (s.respond v).resets = s.resets := rfl
@[simp] theorem State.respond_params (s : State) (v : Word) : (s.respond v).params = s.params := rfl
@[simp] theorem State.emit_ch0 (s : State) (e : Event) : (s.emit e).ch0 = s.ch0 := rfl
@[simp] theorem State.emit_ch1 (s : State) (e : Event) : (s.emit e).ch1 = s.ch1 := rfl
@[simp] theorem State.emit_halted (s : State) (e : Event) : (s.emit e).halted = s.halted := rfl
@[simp] theorem State.emit_cause (s : State) (e : Event) : (s.emit e).cause = s.cause := rfl
@[simp] theorem State.emit_ill (s : State) (e : Event) : (s.emit e).ill = s.ill := rfl
@[simp] theorem State.emit_rsp (s : State) (e : Event) : (s.emit e).rsp = s.rsp := rfl
@[simp] theorem State.emit_evts (s : State) (e : Event) : (s.emit e).evts = s.evts ++ [e] := rfl
@[simp] theorem State.emit_nowMs (s : State) (e : Event) : (s.emit e).nowMs = s.nowMs := rfl
@[simp] theorem State.emit_inputs (s : State) (e : Event) : (s.emit e).inputs = s.inputs := rfl
@[simp] theorem State.emit_resets (s : State) (e : Event) : (s.emit e).resets = s.resets := rfl
@[simp] theorem State.emit_params (s : State) (e : Event) : (s.emit e).params = s.params := rfl
@[simp] theorem State.resetInput_ch0 (s : State) (rest : List HostInput) : (s.resetInput rest).ch0 = Channel.reset := rfl
@[simp] theorem State.resetInput_ch1 (s : State) (rest : List HostInput) : (s.resetInput rest).ch1 = Channel.reset := rfl
@[simp] theorem State.resetInput_halted (s : State) (rest : List HostInput) : (s.resetInput rest).halted = false := rfl
@[simp] theorem State.resetInput_cause (s : State) (rest : List HostInput) : (s.resetInput rest).cause = .none := rfl
@[simp] theorem State.resetInput_ill (s : State) (rest : List HostInput) : (s.resetInput rest).ill = false := rfl
@[simp] theorem State.resetInput_rsp (s : State) (rest : List HostInput) : (s.resetInput rest).rsp = none := rfl
@[simp] theorem State.resetInput_evts (s : State) (rest : List HostInput) : (s.resetInput rest).evts = [] := rfl
@[simp] theorem State.resetInput_nowMs (s : State) (rest : List HostInput) : (s.resetInput rest).nowMs = s.nowMs := rfl
@[simp] theorem State.resetInput_inputs (s : State) (rest : List HostInput) : (s.resetInput rest).inputs = rest := rfl
@[simp] theorem State.resetInput_resets (s : State) (rest : List HostInput) : (s.resetInput rest).resets = s.resets + 1 := rfl
@[simp] theorem State.resetInput_params (s : State) (rest : List HostInput) : (s.resetInput rest).params = s.params := rfl
@[simp] theorem State.chan_raiseFatal (s : State) (k : Cause) (c : Slot) : (s.raiseFatal k).chan c = s.chan c := by cases c <;> rfl
@[simp] theorem State.chan_quiet (s : State) (c : Slot) : (s.quiet).chan c = s.chan c := by cases c <;> rfl
@[simp] theorem State.chan_accept (s : State) (now : Word) (rest : List HostInput) (c : Slot) : (s.accept now rest).chan c = s.chan c := by cases c <;> rfl
@[simp] theorem State.chan_respond (s : State) (v : Word) (c : Slot) : (s.respond v).chan c = s.chan c := by cases c <;> rfl
@[simp] theorem State.chan_emit (s : State) (e : Event) (c : Slot) : (s.emit e).chan c = s.chan c := by cases c <;> rfl
@[simp] theorem State.chan_resetInput (s : State) (rest : List HostInput) (c : Slot) :
    (s.resetInput rest).chan c = Channel.reset := by cases c <;> rfl
@[simp] theorem State.raiseIllegal_ch0 (s : State) : s.raiseIllegal.ch0 = s.ch0 := by
  unfold State.raiseIllegal; split <;> rfl
@[simp] theorem State.raiseIllegal_ch1 (s : State) : s.raiseIllegal.ch1 = s.ch1 := by
  unfold State.raiseIllegal; split <;> rfl
@[simp] theorem State.raiseIllegal_halted (s : State) : s.raiseIllegal.halted = s.halted := by
  unfold State.raiseIllegal; split <;> rfl
@[simp] theorem State.raiseIllegal_cause (s : State) : s.raiseIllegal.cause = s.cause := by
  unfold State.raiseIllegal; split <;> rfl
theorem State.raiseIllegal_ill (s : State) : s.raiseIllegal.ill = (s.ill || !s.halted) := by
  cases h : s.halted <;> simp [State.raiseIllegal, h]
@[simp] theorem State.raiseIllegal_rsp (s : State) : s.raiseIllegal.rsp = s.rsp := by
  unfold State.raiseIllegal; split <;> rfl
@[simp] theorem State.raiseIllegal_evts (s : State) : s.raiseIllegal.evts = s.evts := by
  unfold State.raiseIllegal; split <;> rfl
@[simp] theorem State.raiseIllegal_nowMs (s : State) : s.raiseIllegal.nowMs = s.nowMs := by
  unfold State.raiseIllegal; split <;> rfl
@[simp] theorem State.raiseIllegal_inputs (s : State) : s.raiseIllegal.inputs = s.inputs := by
  unfold State.raiseIllegal; split <;> rfl
@[simp] theorem State.raiseIllegal_resets (s : State) : s.raiseIllegal.resets = s.resets := by
  unfold State.raiseIllegal; split <;> rfl
@[simp] theorem State.raiseIllegal_params (s : State) : s.raiseIllegal.params = s.params := by
  unfold State.raiseIllegal; split <;> rfl
@[simp] theorem State.chan_raiseIllegal (s : State) (c : Slot) : s.raiseIllegal.chan c = s.chan c := by
  unfold State.raiseIllegal; split <;> cases c <;> rfl

/-! ## The updates of Channel -/

@[simp] theorem Channel.goIdle_configured (ch : Channel) : (ch.goIdle).configured = ch.configured := rfl
@[simp] theorem Channel.goIdle_id (ch : Channel) : (ch.goIdle).id = ch.id := rfl
@[simp] theorem Channel.goIdle_wpm (ch : Channel) : (ch.goIdle).wpm = ch.wpm := rfl
@[simp] theorem Channel.goIdle_sending (ch : Channel) : (ch.goIdle).sending = false := rfl
@[simp] theorem Channel.goIdle_len (ch : Channel) : (ch.goIdle).len = ch.len := rfl
@[simp] theorem Channel.goIdle_charIndex (ch : Channel) : (ch.goIdle).charIndex = 0#9 := rfl
@[simp] theorem Channel.goIdle_bitIndex (ch : Channel) : (ch.goIdle).bitIndex = 0#3 := rfl
@[simp] theorem Channel.goIdle_pattern (ch : Channel) : (ch.goIdle).pattern = 0x00#8 := rfl
@[simp] theorem Channel.goIdle_digraph (ch : Channel) : (ch.goIdle).digraph = false := rfl
@[simp] theorem Channel.goIdle_phase (ch : Channel) : (ch.goIdle).phase = .await := rfl
@[simp] theorem Channel.goIdle_deadline (ch : Channel) : (ch.goIdle).deadline = ch.deadline := rfl
@[simp] theorem Channel.goIdle_actOn (ch : Channel) : (ch.goIdle).actOn = ch.actOn := rfl
@[simp] theorem Channel.goIdle_msg (ch : Channel) : (ch.goIdle).msg = ch.msg := rfl
@[simp] theorem Channel.start_configured (ch : Channel) (n : BitVec 9) (now : Word) : (ch.start n now).configured = ch.configured := rfl
@[simp] theorem Channel.start_id (ch : Channel) (n : BitVec 9) (now : Word) : (ch.start n now).id = ch.id := rfl
@[simp] theorem Channel.start_wpm (ch : Channel) (n : BitVec 9) (now : Word) : (ch.start n now).wpm = ch.wpm := rfl
@[simp] theorem Channel.start_sending (ch : Channel) (n : BitVec 9) (now : Word) : (ch.start n now).sending = true := rfl
@[simp] theorem Channel.start_len (ch : Channel) (n : BitVec 9) (now : Word) : (ch.start n now).len = n := rfl
@[simp] theorem Channel.start_charIndex (ch : Channel) (n : BitVec 9) (now : Word) : (ch.start n now).charIndex = 0#9 := rfl
@[simp] theorem Channel.start_bitIndex (ch : Channel) (n : BitVec 9) (now : Word) : (ch.start n now).bitIndex = 0#3 := rfl
@[simp] theorem Channel.start_pattern (ch : Channel) (n : BitVec 9) (now : Word) : (ch.start n now).pattern = 0x00#8 := rfl
@[simp] theorem Channel.start_digraph (ch : Channel) (n : BitVec 9) (now : Word) : (ch.start n now).digraph = false := rfl
@[simp] theorem Channel.start_phase (ch : Channel) (n : BitVec 9) (now : Word) : (ch.start n now).phase = .await := rfl
@[simp] theorem Channel.start_deadline (ch : Channel) (n : BitVec 9) (now : Word) : (ch.start n now).deadline = now := rfl
@[simp] theorem Channel.start_actOn (ch : Channel) (n : BitVec 9) (now : Word) : (ch.start n now).actOn = ch.actOn := rfl
@[simp] theorem Channel.start_msg (ch : Channel) (n : BitVec 9) (now : Word) : (ch.start n now).msg = ch.msg := rfl
@[simp] theorem Channel.schedule_configured (ch : Channel) (k : Nat) (now : Word) : (ch.schedule k now).configured = ch.configured := rfl
@[simp] theorem Channel.schedule_id (ch : Channel) (k : Nat) (now : Word) : (ch.schedule k now).id = ch.id := rfl
@[simp] theorem Channel.schedule_wpm (ch : Channel) (k : Nat) (now : Word) : (ch.schedule k now).wpm = ch.wpm := rfl
@[simp] theorem Channel.schedule_sending (ch : Channel) (k : Nat) (now : Word) : (ch.schedule k now).sending = ch.sending := rfl
@[simp] theorem Channel.schedule_len (ch : Channel) (k : Nat) (now : Word) : (ch.schedule k now).len = ch.len := rfl
@[simp] theorem Channel.schedule_charIndex (ch : Channel) (k : Nat) (now : Word) : (ch.schedule k now).charIndex = ch.charIndex := rfl
@[simp] theorem Channel.schedule_bitIndex (ch : Channel) (k : Nat) (now : Word) : (ch.schedule k now).bitIndex = ch.bitIndex := rfl
@[simp] theorem Channel.schedule_pattern (ch : Channel) (k : Nat) (now : Word) : (ch.schedule k now).pattern = ch.pattern := rfl
@[simp] theorem Channel.schedule_digraph (ch : Channel) (k : Nat) (now : Word) : (ch.schedule k now).digraph = ch.digraph := rfl
@[simp] theorem Channel.schedule_phase (ch : Channel) (k : Nat) (now : Word) : (ch.schedule k now).phase = ch.phase := rfl
@[simp] theorem Channel.schedule_deadline (ch : Channel) (k : Nat) (now : Word) : (ch.schedule k now).deadline = deadlineAt k ch.wpm now := rfl
@[simp] theorem Channel.schedule_actOn (ch : Channel) (k : Nat) (now : Word) : (ch.schedule k now).actOn = ch.actOn := rfl
@[simp] theorem Channel.schedule_msg (ch : Channel) (k : Nat) (now : Word) : (ch.schedule k now).msg = ch.msg := rfl
@[simp] theorem Channel.finishChar_configured (ch : Channel) : (ch.finishChar).configured = ch.configured := rfl
@[simp] theorem Channel.finishChar_id (ch : Channel) : (ch.finishChar).id = ch.id := rfl
@[simp] theorem Channel.finishChar_wpm (ch : Channel) : (ch.finishChar).wpm = ch.wpm := rfl
@[simp] theorem Channel.finishChar_sending (ch : Channel) : (ch.finishChar).sending = ch.sending := rfl
@[simp] theorem Channel.finishChar_len (ch : Channel) : (ch.finishChar).len = ch.len := rfl
@[simp] theorem Channel.finishChar_charIndex (ch : Channel) : (ch.finishChar).charIndex = ch.charIndex + 1#9 := rfl
@[simp] theorem Channel.finishChar_bitIndex (ch : Channel) : (ch.finishChar).bitIndex = 0#3 := rfl
@[simp] theorem Channel.finishChar_pattern (ch : Channel) : (ch.finishChar).pattern = ch.pattern := rfl
@[simp] theorem Channel.finishChar_digraph (ch : Channel) : (ch.finishChar).digraph = ch.digraph := rfl
@[simp] theorem Channel.finishChar_phase (ch : Channel) : (ch.finishChar).phase = .await := rfl
@[simp] theorem Channel.finishChar_deadline (ch : Channel) : (ch.finishChar).deadline = ch.deadline := rfl
@[simp] theorem Channel.finishChar_actOn (ch : Channel) : (ch.finishChar).actOn = ch.actOn := rfl
@[simp] theorem Channel.finishChar_msg (ch : Channel) : (ch.finishChar).msg = ch.msg := rfl
@[simp] theorem Channel.skipChar_configured (ch : Channel) : (ch.skipChar).configured = ch.configured := rfl
@[simp] theorem Channel.skipChar_id (ch : Channel) : (ch.skipChar).id = ch.id := rfl
@[simp] theorem Channel.skipChar_wpm (ch : Channel) : (ch.skipChar).wpm = ch.wpm := rfl
@[simp] theorem Channel.skipChar_sending (ch : Channel) : (ch.skipChar).sending = ch.sending := rfl
@[simp] theorem Channel.skipChar_len (ch : Channel) : (ch.skipChar).len = ch.len := rfl
@[simp] theorem Channel.skipChar_charIndex (ch : Channel) : (ch.skipChar).charIndex = ch.charIndex + 1#9 := rfl
@[simp] theorem Channel.skipChar_bitIndex (ch : Channel) : (ch.skipChar).bitIndex = ch.bitIndex := rfl
@[simp] theorem Channel.skipChar_pattern (ch : Channel) : (ch.skipChar).pattern = ch.pattern := rfl
@[simp] theorem Channel.skipChar_digraph (ch : Channel) : (ch.skipChar).digraph = ch.digraph := rfl
@[simp] theorem Channel.skipChar_phase (ch : Channel) : (ch.skipChar).phase = ch.phase := rfl
@[simp] theorem Channel.skipChar_deadline (ch : Channel) : (ch.skipChar).deadline = ch.deadline := rfl
@[simp] theorem Channel.skipChar_actOn (ch : Channel) : (ch.skipChar).actOn = ch.actOn := rfl
@[simp] theorem Channel.skipChar_msg (ch : Channel) : (ch.skipChar).msg = ch.msg := rfl
@[simp] theorem Channel.toggleDigraph_configured (ch : Channel) : (ch.toggleDigraph).configured = ch.configured := rfl
@[simp] theorem Channel.toggleDigraph_id (ch : Channel) : (ch.toggleDigraph).id = ch.id := rfl
@[simp] theorem Channel.toggleDigraph_wpm (ch : Channel) : (ch.toggleDigraph).wpm = ch.wpm := rfl
@[simp] theorem Channel.toggleDigraph_sending (ch : Channel) : (ch.toggleDigraph).sending = ch.sending := rfl
@[simp] theorem Channel.toggleDigraph_len (ch : Channel) : (ch.toggleDigraph).len = ch.len := rfl
@[simp] theorem Channel.toggleDigraph_charIndex (ch : Channel) : (ch.toggleDigraph).charIndex = ch.charIndex + 1#9 := rfl
@[simp] theorem Channel.toggleDigraph_bitIndex (ch : Channel) : (ch.toggleDigraph).bitIndex = ch.bitIndex := rfl
@[simp] theorem Channel.toggleDigraph_pattern (ch : Channel) : (ch.toggleDigraph).pattern = ch.pattern := rfl
@[simp] theorem Channel.toggleDigraph_digraph (ch : Channel) : (ch.toggleDigraph).digraph = (!ch.digraph) := rfl
@[simp] theorem Channel.toggleDigraph_phase (ch : Channel) : (ch.toggleDigraph).phase = ch.phase := rfl
@[simp] theorem Channel.toggleDigraph_deadline (ch : Channel) : (ch.toggleDigraph).deadline = ch.deadline := rfl
@[simp] theorem Channel.toggleDigraph_actOn (ch : Channel) : (ch.toggleDigraph).actOn = ch.actOn := rfl
@[simp] theorem Channel.toggleDigraph_msg (ch : Channel) : (ch.toggleDigraph).msg = ch.msg := rfl

end Sys2Proof.Machine
end

