-- ==== Sys2Proof/Laws/Memory.lean ====
section
/-! SUPPORT. The message store: a read after a write, and the canonical form that every write keeps. -/

namespace Sys2Proof.Machine

@[simp] theorem Memory.read_nil (a : Nat) : Memory.read [] a = none := rfl

@[simp] theorem Memory.read_write_same (m : Memory) (a : Nat) (v : Byte) : (m.write a v).read a = some v := by
  induction m with
  | nil => simp [Memory.write, Memory.read]
  | cons x m ih =>
    obtain ⟨b, w⟩ := x
    by_cases h1 : a < b
    · simp [Memory.write, Memory.read, h1]
    · by_cases h2 : a = b
      · simp [Memory.write, Memory.read, h2]
      · simp [Memory.write, Memory.read, h1, h2, Ne.symm h2, ih]

theorem Memory.read_write_other (m : Memory) {a b : Nat} (v : Byte) (h : b ≠ a) : (m.write a v).read b = m.read b := by
  induction m with
  | nil => simp [Memory.write, Memory.read, Ne.symm h]
  | cons x m ih =>
    obtain ⟨d, w⟩ := x
    by_cases h1 : a < d
    · simp [Memory.write, Memory.read, h1, Ne.symm h]
    · by_cases h2 : a = d
      · subst h2; simp [Memory.write, Memory.read, Ne.symm h]
      · simp [Memory.write, Memory.read, h1, h2, ih]

theorem Memory.mem_write {m : Memory} {a : Nat} {v : Byte} {x : Host.Cell} (h : x ∈ m.write a v) : x = (a, v) ∨ x ∈ m := by
  induction m with
  | nil => simpa [Memory.write] using h
  | cons y m ih =>
    obtain ⟨b, w⟩ := y
    simp only [Memory.write] at h
    split at h
    · simpa using h
    · split at h
      · rcases List.mem_cons.1 h with h | h
        · exact .inl h
        · exact .inr (List.mem_cons_of_mem _ h)
      · rcases List.mem_cons.1 h with h | h
        · exact .inr (h ▸ List.mem_cons_self)
        · exact (ih h).imp_right (List.mem_cons_of_mem _)

/-- A write keeps the canonical form. -/
theorem Memory.wf_write {m : Memory} (hm : m.wf) (a : Nat) (v : Byte) : (m.write a v).wf := by
  induction m with
  | nil => simp [Memory.write]
  | cons y m ih =>
    obtain ⟨b, w⟩ := y
    obtain ⟨hb, hm'⟩ := List.pairwise_cons.1 hm
    simp only [Memory.write]
    split
    · next h =>
      refine List.pairwise_cons.2 ⟨fun x hx => ?_, hm⟩
      rcases List.mem_cons.1 hx with rfl | hx
      · exact h
      · exact Nat.lt_trans h (hb x hx)
    · split
      · next h => subst h; exact List.pairwise_cons.2 ⟨hb, hm'⟩
      · next h1 h2 =>
        refine List.pairwise_cons.2 ⟨fun x hx => ?_, ih hm'⟩
        rcases Memory.mem_write hx with rfl | hx
        · show b < a; omega
        · exact hb x hx

/-- The store after reset has its canonical form. -/
theorem Memory.wf_reset (c : Slot) : (State.reset.chan c).msg.wf := by cases c <;> exact List.Pairwise.nil

/-! ## byteAt, the model's read of one byte -/

theorem State.byteAt_congr {s t : State} {c : Slot} (h : (t.chan c).msg = (s.chan c).msg) (hr : t.resets = s.resets) (a : Nat) :
    t.byteAt c a = s.byteAt c a := by simp [State.byteAt, h, hr]

@[simp] theorem State.byteAt_memWrite_same (s : State) (c : Slot) (a : Nat) (v : Byte) : (s.memWrite c a v).byteAt c a = v := by
  simp [State.byteAt, State.memWrite]

theorem State.byteAt_memWrite_other (s : State) (c d : Slot) {a b : Nat} (v : Byte) (h : d ≠ c ∨ b ≠ a) :
    (s.memWrite c a v).byteAt d b = s.byteAt d b := by
  rcases eq_or_eq_otherSlot c d with rfl | rfl
  · have hb : b ≠ a := by simpa using h
    simp [State.byteAt, State.memWrite, Memory.read_write_other _ _ hb]
  · simp [State.byteAt, State.memWrite]

end Sys2Proof.Machine
end

