-- ==== Sys2Proof/Laws/Ops.lean ====
section
/-! SUPPORT. What each shared operation can do, said once: proofs cite these lemmas and do not unfold the operations. -/

namespace Sys2Proof.Machine

/-! ## States equal in all parts -/

theorem State.ext_chan {s t : State} (c : Slot) (h1 : t.chan c = s.chan c) (h2 : t.chan (otherSlot c) = s.chan (otherSlot c))
    (halted : t.halted = s.halted) (cause : t.cause = s.cause) (ill : t.ill = s.ill) (rsp : t.rsp = s.rsp)
    (evts : t.evts = s.evts) (now : t.nowMs = s.nowMs) (inputs : t.inputs = s.inputs) (resets : t.resets = s.resets)
    (params : t.params = s.params) : t = s := by
  cases s; cases t; cases c <;> simp_all [State.chan]

theorem SameOutside.refl (c : Slot) (s : State) : SameOutside c s s := ⟨rfl, rfl, rfl, rfl, rfl, rfl, rfl, rfl⟩

theorem SameOutside.trans {c : Slot} {s t u : State} (h : SameOutside c s t) (g : SameOutside c t u) : SameOutside c s u :=
  ⟨g.other.trans h.other, g.halted.trans h.halted, g.cause.trans h.cause, g.ill.trans h.ill, g.nowMs.trans h.nowMs,
    g.inputs.trans h.inputs, g.resets.trans h.resets, g.params.trans h.params⟩

theorem SameOutside.mapChan (c : Slot) (s : State) (f : Channel → Channel) : SameOutside c s (s.mapChan c f) := by
  constructor <;> simp

/-- An operation that keeps channel c's store and everything outside channel c keeps both memories. -/
theorem SameOutside.sameMemory {c : Slot} {s t : State} (h : SameOutside c s t) (hm : (t.chan c).msg = (s.chan c).msg) :
    SameMemory s t := by
  intro d a
  rcases eq_or_eq_otherSlot c d with rfl | rfl
  · exact State.byteAt_congr hm h.resets a
  · exact State.byteAt_congr (by rw [h.other]) h.resets a

theorem State.setAct_eq_self {s : State} {c : Slot} {on : Bool} (h : on = (s.chan c).actOn) : s.setAct c on = s := by
  subst h; cases c <;> rfl

/-! ## drive -/

/-- The state with further events issued. -/
def State.addEvts (s : State) (l : List Event) : State := { s with evts := s.evts ++ l }

@[simp] theorem State.addEvts_nil (s : State) : s.addEvts [] = s := by simp [State.addEvts]
@[simp] theorem State.chan_addEvts (s : State) (l : List Event) (c : Slot) : (s.addEvts l).chan c = s.chan c := by
  cases c <;> rfl
@[simp] theorem State.addEvts_evts (s : State) (l : List Event) : (s.addEvts l).evts = s.evts ++ l := rfl
@[simp] theorem State.addEvts_rsp (s : State) (l : List Event) : (s.addEvts l).rsp = s.rsp := rfl

theorem State.addEvts_sameOutside (c : Slot) (s : State) (l : List Event) : SameOutside c s (s.addEvts l) := by
  exact ⟨State.chan_addEvts _ _ _, rfl, rfl, rfl, rfl, rfl, rfl, rfl⟩

/-- All that drive does (43_channel_adapter.md R195). -/
theorem State.drive_eq (s : State) (c : Slot) (on : Bool) :
    s.drive c on = (s.setAct c on).addEvts (requestEvents c (s.chan c) on) := by
  cases c
  · rfl
  · by_cases h : on = (s.chan .cw).actOn
    · rw [State.setAct_eq_self h]
      simp only [State.drive, requestEvents, if_pos h]
      simp [slotKind]
    · simp only [State.drive, requestEvents, if_neg h]
      cases on <;> rfl

theorem requestEvents_length_le (c : Slot) (ch : Channel) (on : Bool) : (requestEvents c ch on).length ≤ 1 := by
  unfold requestEvents
  split
  · simp
  · split
    · simp
    · split <;> simp

@[simp] theorem State.chan_drive (s : State) (c : Slot) (on : Bool) :
    (s.drive c on).chan c = { s.chan c with actOn := on } := by simp [State.drive_eq, State.setAct]

@[simp] theorem State.drive_evts (s : State) (c : Slot) (on : Bool) :
    (s.drive c on).evts = s.evts ++ requestEvents c (s.chan c) on := by simp [State.drive_eq, State.setAct]

@[simp] theorem State.drive_rsp (s : State) (c : Slot) (on : Bool) : (s.drive c on).rsp = s.rsp := by
  simp [State.drive_eq, State.setAct]

theorem State.drive_sameOutside (s : State) (c : Slot) (on : Bool) : SameOutside c s (s.drive c on) := by
  rw [State.drive_eq]; exact (SameOutside.mapChan _ _ _).trans (State.addEvts_sameOutside _ _ _)

/-! ## element_on and gap_pending -/

/-- Channel c after element_on (42_automaton.md R163). -/
def Channel.withElement (ch : Channel) (now : Word) : Channel :=
  if ch.pattern = wordSpace then { ch with phase := .elemOn, deadline := deadlineAt 7 ch.wpm now }
  else { ch with phase := .elemOn, deadline := deadlineAt ch.toneUnits ch.wpm now, actOn := true }

@[simp] theorem State.chan_elementOn (s : State) (c : Slot) (now : Word) :
    (s.elementOn c now).chan c = (s.chan c).withElement now := by
  unfold State.elementOn Channel.withElement
  by_cases h : (s.chan c).pattern = wordSpace
  · simp [h, Channel.schedule]
  · simp [h, Channel.schedule, Channel.toneUnits]

theorem State.elementOn_evts (s : State) (c : Slot) (now : Word) :
    (s.elementOn c now).evts =
      s.evts ++ if (s.chan c).pattern = wordSpace then [] else requestEvents c (s.chan c) true := by
  unfold State.elementOn
  by_cases h : (s.chan c).pattern = wordSpace
  · simp [h]
  · simp [h, requestEvents, Channel.schedule]

@[simp] theorem State.elementOn_rsp (s : State) (c : Slot) (now : Word) : (s.elementOn c now).rsp = s.rsp := by
  unfold State.elementOn
  by_cases h : (s.chan c).pattern = wordSpace <;> simp [h]

theorem State.elementOn_sameOutside (s : State) (c : Slot) (now : Word) : SameOutside c s (s.elementOn c now) := by
  unfold State.elementOn
  by_cases h : (s.chan c).pattern = wordSpace
  · simp only [State.chan_mapChan, h, if_true]
    exact (SameOutside.mapChan _ _ _).trans (SameOutside.mapChan _ _ _)
  · simp only [State.chan_mapChan, h, if_false]
    exact ((SameOutside.mapChan _ _ _).trans (SameOutside.mapChan _ _ _)).trans (State.drive_sameOutside _ _ _)

@[simp] theorem Channel.withElement_msg (ch : Channel) (now : Word) : (ch.withElement now).msg = ch.msg := by
  unfold Channel.withElement; split <;> rfl

/-- Channel c after gap_pending (42_automaton.md R164). -/
def Channel.withGap (ch : Channel) (now : Word) : Channel :=
  let next := { ch with bitIndex := ch.bitIndex + 1#3 }
  { next with
    phase := .gapActive, deadline := deadlineAt next.gapUnits ch.wpm now,
    actOn := if ch.pattern = wordSpace then ch.actOn else false }

@[simp] theorem State.chan_gapPending (s : State) (c : Slot) (now : Word) :
    (s.gapPending c now).chan c = (s.chan c).withGap now := by
  unfold State.gapPending Channel.withGap
  by_cases h : (s.chan c).pattern = wordSpace <;> simp [h, Channel.schedule, Channel.gapUnits]

theorem State.gapPending_evts (s : State) (c : Slot) (now : Word) :
    (s.gapPending c now).evts =
      s.evts ++ if (s.chan c).pattern = wordSpace then [] else requestEvents c (s.chan c) false := by
  unfold State.gapPending
  by_cases h : (s.chan c).pattern = wordSpace <;> simp [h, requestEvents]

@[simp] theorem State.gapPending_rsp (s : State) (c : Slot) (now : Word) : (s.gapPending c now).rsp = s.rsp := by
  unfold State.gapPending
  by_cases h : (s.chan c).pattern = wordSpace <;> simp [h]

theorem State.gapPending_sameOutside (s : State) (c : Slot) (now : Word) : SameOutside c s (s.gapPending c now) := by
  have h3 : ∀ u : State, SameOutside c s u → SameOutside c s (((u.mapChan c fun ch => { ch with bitIndex := ch.bitIndex + 1#3 }).mapChan c
      fun ch => ch.schedule ch.gapUnits now).mapChan c fun ch => { ch with phase := .gapActive }) := fun u hu =>
    ((hu.trans (SameOutside.mapChan _ _ _)).trans (SameOutside.mapChan _ _ _)).trans (SameOutside.mapChan _ _ _)
  unfold State.gapPending
  refine h3 _ ?_
  split
  · exact SameOutside.mapChan _ _ _
  · exact (SameOutside.mapChan _ _ _).trans (State.drive_sameOutside _ _ _)

@[simp] theorem Channel.withGap_msg (ch : Channel) (now : Word) : (ch.withGap now).msg = ch.msg := rfl

/-! ## Loading a character -/

/-- Channel c after a character is loaded, before its first element begins (42_automaton.md R162). -/
def Channel.withPattern (ch : Channel) (p : Byte) (now : Word) : Channel :=
  { ch with pattern := p, bitIndex := 0#3, deadline := now }

theorem State.loadChar_eq (s : State) (c : Slot) (b : Byte) (now : Word) :
    s.loadChar c b now =
      (s.mapChan c fun ch => ch.withPattern (romRead s.params.notFoundCode b) now).elementOn c now := rfl

@[simp] theorem State.chan_loadChar (s : State) (c : Slot) (b : Byte) (now : Word) :
    (s.loadChar c b now).chan c = ((s.chan c).withPattern (romRead s.params.notFoundCode b) now).withElement now := by
  simp [State.loadChar_eq]

theorem State.loadChar_sameOutside (s : State) (c : Slot) (b : Byte) (now : Word) : SameOutside c s (s.loadChar c b now) := by
  rw [State.loadChar_eq]; exact (SameOutside.mapChan _ _ _).trans (State.elementOn_sameOutside _ _ _)

@[simp] theorem State.loadChar_rsp (s : State) (c : Slot) (b : Byte) (now : Word) : (s.loadChar c b now).rsp = s.rsp := by
  simp [State.loadChar_eq]

theorem State.loadChar_evts (s : State) (c : Slot) (b : Byte) (now : Word) :
    (s.loadChar c b now).evts =
      s.evts ++ if romRead s.params.notFoundCode b = wordSpace then [] else requestEvents c (s.chan c) true := by
  simp [State.loadChar_eq, State.elementOn_evts, Channel.withPattern, requestEvents]

/-- No table entry is 0 (40_code_rom.md R102), so no pattern is when NOT_FOUND_CODE is not. -/
theorem romRead_ne_zero {nf : Byte} (h : nf ≠ 0x00#8) (b : Byte) : romRead nf b ≠ 0x00#8 := by
  have all : (romTable.all fun x => x.2 != 0x00#8) = true := by rfl
  have key : ∀ x ∈ romTable, x.2 ≠ 0x00#8 := by simpa using all
  unfold romRead
  cases hl : romTable.lookup b with
  | none => simpa using h
  | some p =>
    obtain ⟨l1, l2, he, -⟩ := List.lookup_eq_some_iff.1 hl
    exact key (b, p) (by rw [he]; simp)

/-! ## AWAIT -/

theorem State.nextByte_eq {s : State} {c : Slot} (h : (s.chan c).charIndex.toNat < s.params.msgDepth) :
    s.nextByte c = some (s.byteAt c (s.chan c).charIndex.toNat) := by simp [State.nextByte, h]

/-- The loop of TICK's AWAIT as 42_automaton.md R160 and R162 write it. -/
theorem awaitChars_eq (c : Slot) (now : Word) (s : State) :
    awaitChars c now s =
      if (s.chan c).charIndex = (s.chan c).len then .next (s.mapChan c Channel.goIdle)
      else
        match s.nextByte c with
        | none => .fault .addressOutsideStore
        | some b =>
          if b = tilde then awaitChars c now (s.mapChan c Channel.skipChar)
          else if b = backtick then awaitChars c now (s.mapChan c Channel.toggleDigraph)
          else .next (s.loadChar c b now) := by
  unfold awaitChars
  by_cases h : (s.chan c).charIndex = (s.chan c).len
  · simp [h, awaitRun]
  · have hne : ((s.chan c).len - (s.chan c).charIndex).toNat ≠ 0 := by
      intro h0; apply h; bv_omega
    obtain ⟨n, hn⟩ := Nat.exists_eq_succ_of_ne_zero hne
    have hs : ((s.chan c).len - ((s.chan c).charIndex + 1#9)).toNat = n := by bv_omega
    rw [if_neg h, hn]
    simp only [awaitRun, State.chan_mapChan, Channel.skipChar_len, Channel.skipChar_charIndex, Channel.toggleDigraph_len,
      Channel.toggleDigraph_charIndex, hs]
    first | done | rfl

/-- Channel c with k more characters consumed and digraph mode at d: all that control characters can change. -/
def Channel.consumed (k : Nat) (d : Bool) (ch : Channel) : Channel :=
  { ch with charIndex := ch.charIndex + BitVec.ofNat 9 k, digraph := d }

/-- All that the AWAIT passes can do: after some control characters the message ends, or a character that is no control
character is loaded. -/
theorem awaitRun_cases {c : Slot} {now : Word} {n : Nat} {s t : State} (h : awaitRun c now n s = .next t) :
    ∃ k d, k ≤ n ∧
      ((k = n ∧ t = (s.mapChan c (Channel.consumed k d)).mapChan c Channel.goIdle) ∨
        (k < n ∧ ∃ b, b ≠ tilde ∧ b ≠ backtick ∧ (s.mapChan c (Channel.consumed k d)).nextByte c = some b ∧
          t = (s.mapChan c (Channel.consumed k d)).loadChar c b now)) := by
  have zero : ∀ s : State, s.mapChan c (Channel.consumed 0 (s.chan c).digraph) = s := by
    intro s; cases c <;> simp [State.mapChan, State.setChan, State.chan, Channel.consumed]
  induction n generalizing s with
  | zero =>
    refine ⟨0, (s.chan c).digraph, le_rfl, .inl ⟨rfl, ?_⟩⟩
    rw [zero]; simpa [awaitRun] using h.symm
  | succ n ih =>
    have later : ∀ f : Channel → Channel, (∃ e, ∀ ch k d, Channel.consumed k d (f ch) = Channel.consumed (k + 1) d ch ∧ e = ()) →
        awaitRun c now n (s.mapChan c f) = .next t →
        ∃ k d, k ≤ n + 1 ∧
          ((k = n + 1 ∧ t = (s.mapChan c (Channel.consumed k d)).mapChan c Channel.goIdle) ∨
            (k < n + 1 ∧ ∃ b, b ≠ tilde ∧ b ≠ backtick ∧ (s.mapChan c (Channel.consumed k d)).nextByte c = some b ∧
              t = (s.mapChan c (Channel.consumed k d)).loadChar c b now)) := by
      rintro f ⟨_, hf⟩ hrun
      obtain ⟨k, d, hk, hc⟩ := ih hrun
      have he : (s.mapChan c f).mapChan c (Channel.consumed k d) = s.mapChan c (Channel.consumed (k + 1) d) := by
        rw [State.mapChan_mapChan]; congr 1; funext ch; exact (hf ch k d).1
      rw [he] at hc
      exact ⟨k + 1, d, by omega, hc.imp (fun h => ⟨by omega, h.2⟩) (fun h => ⟨by omega, h.2⟩)⟩
    have step : ∀ (x : BitVec 9) (k : Nat), x + 1#9 + BitVec.ofNat 9 k = x + BitVec.ofNat 9 (k + 1) := by
      intro x k; apply BitVec.eq_of_toNat_eq; simp [BitVec.toNat_add, Nat.add_assoc, Nat.add_comm 1 k]
    simp only [awaitRun] at h
    split at h
    · cases h
    · next b hb =>
      split at h
      · exact later _ ⟨(), fun ch k d => ⟨by simp [Channel.consumed, Channel.skipChar, step], rfl⟩⟩ h
      · split at h
        · exact later _ ⟨(), fun ch k d => ⟨by simp [Channel.consumed, Channel.toggleDigraph, step], rfl⟩⟩ h
        · next h1 h2 =>
          refine ⟨0, (s.chan c).digraph, by omega, .inr ⟨by omega, b, h1, h2, ?_, ?_⟩⟩
          · rw [zero]; exact hb
          · rw [zero]; simpa using h.symm

/-- What the AWAIT passes leave unchanged, and the two ways they end: idle with no event, or in the first element of a character
with the deadline of one of the five durations. -/
theorem awaitChars_next {c : Slot} {now : Word} {s t : State} (h : awaitChars c now s = .next t) :
    SameOutside c s t ∧ SameMemory s t ∧ t.rsp = s.rsp ∧ (t.chan c).msg = (s.chan c).msg ∧ (t.chan c).id = (s.chan c).id ∧
      (t.chan c).wpm = (s.chan c).wpm ∧ (t.chan c).configured = (s.chan c).configured ∧ (t.chan c).len = (s.chan c).len ∧
      (((t.chan c).sending = false ∧ t.evts = s.evts ∧ (t.chan c).actOn = (s.chan c).actOn ∧
          (t.chan c).deadline = (s.chan c).deadline) ∨
        ((t.chan c).sending = (s.chan c).sending ∧ (t.chan c).phase = .elemOn ∧
          (∃ k, (k = 1 ∨ k = 3 ∨ k = 7) ∧ (t.chan c).deadline = deadlineAt k (s.chan c).wpm now) ∧
          ((t.evts = s.evts ∧ (t.chan c).actOn = (s.chan c).actOn) ∨
            (t.evts = s.evts ++ requestEvents c (s.chan c) true ∧ (t.chan c).actOn = true)))) := by
  obtain ⟨k, d, hk, (⟨-, rfl⟩ | ⟨-, b, -, -, hb, rfl⟩)⟩ := awaitRun_cases h
  · have ho := (SameOutside.mapChan c s (Channel.consumed k d)).trans (SameOutside.mapChan _ _ Channel.goIdle)
    refine ⟨ho, ho.sameMemory ?_, ?_⟩ <;> simp [Channel.consumed]
  · have ho := (SameOutside.mapChan c s (Channel.consumed k d)).trans (State.loadChar_sameOutside _ _ b now)
    refine ⟨ho, ho.sameMemory ?_, ?_⟩
    · simp [Channel.withPattern, Channel.consumed]
    · rw [State.loadChar_evts]
      simp only [State.chan_loadChar, State.chan_mapChan]
      unfold Channel.withElement
      by_cases hp : romRead s.params.notFoundCode b = wordSpace
      · simp [Channel.withPattern, Channel.consumed, hp]
      · refine ⟨by simp, ?_⟩
        simp only [Channel.withPattern, Channel.consumed, State.mapChan_params, hp, if_false, true_and]
        refine .inr ⟨?_, .inr ⟨by simp [requestEvents], trivial⟩⟩
        simp only [Channel.toneUnits]
        split
        · exact ⟨3, .inr (.inl rfl), rfl⟩
        · exact ⟨1, .inl rfl, rfl⟩

/-! ## The gate -/

theorem State.ignores_eq_false {s : State} {c : Slot} : s.ignores c = false ↔ s.Live c := by
  simp [State.ignores, State.Live]

theorem State.Live.ignores {s : State} {c : Slot} (h : s.Live c) : s.ignores c = false := State.ignores_eq_false.2 h

/-- All that `raise Illegal` does (60_exceptions.md R226). -/
theorem State.raiseIllegal_eq (s : State) :
    s.raiseIllegal = { s with ill := if s.halted = false then true else s.ill } := by
  unfold State.raiseIllegal
  split
  · next h => rw [if_neg (by simp [h])]
  · next h => rw [if_pos (by simpa using h)]

/-! ## Timing -/

theorem expired_iff (now dl : Word) : expired now dl = true ↔ (now - dl).toNat < 2 ^ 31 := by
  simp [expired, BitVec.msb_eq_decide]

end Sys2Proof.Machine
end

