-- ==== Sys2Proof/Laws/PerInstr.lean ====
section
/-! SUPPORT. What holds of every command as syntax, one lemma for each constructor. -/

namespace Sys2Proof.Laws

/-- The match column of the opcode map (30_encoding.md R79). -/
def rowMatch : Instr → Word
  | .configure _ _ _ => 0x10000000#32
  | .setWpm _ _ => 0x20000000#32
  | .msgWrite _ _ _ => 0x30000000#32
  | .submit _ _ => 0x40000000#32
  | .tick _ => 0x50000000#32
  | .stop _ => 0x60000000#32
  | .isSending _ => 0x70000000#32
  | .readStatus => 0x80000000#32

/-- The mask column of the opcode map (30_encoding.md R79). -/
def rowMask : Instr → Word
  | .configure _ _ _ => 0xF300FF00#32
  | .setWpm _ _ => 0xF7FFFF00#32
  | .msgWrite _ _ _ => 0xF7FF0000#32
  | .submit _ _ => 0xF7FFFE00#32
  | .tick _ => 0xF7FFFFFF#32
  | .stop _ => 0xF7FFFFFF#32
  | .isSending _ => 0xF7FFFFFF#32
  | .readStatus => 0xFFFFFFFF#32

/-- The word of a command meets the match and the mask of its row (30_encoding.md R79). -/
def EncodeRow.Statement (i : Instr) : Prop := encode i &&& rowMask i = rowMatch i

/-- A bit pattern under a mask, field by field. -/
theorem and_eq_of_fields {n m : Nat} {x x' x'' : BitVec n} {y y' y'' : BitVec m} (hx : x &&& x' = x'') (hy : y &&& y' = y'') :
    (x ++ y) &&& (x' ++ y') = x'' ++ y'' := by rw [BitVec.and_append, hx, hy]

theorem and_zero_field {n : Nat} (x : BitVec n) : x &&& 0#n = 0#n := by simp

theorem EncodeRow.configure (kind : BitVec 2) (id wpm : Byte) : EncodeRow.Statement (.configure kind id wpm) :=
  and_eq_of_fields (x' := 0xF#4 ++ 0#2 ++ 3#2 ++ 0#8 ++ 0xFF#8) (x'' := 0x1#4 ++ 0#2 ++ 0#2 ++ 0#8 ++ 0#8)
    (and_eq_of_fields (and_eq_of_fields (and_eq_of_fields (and_eq_of_fields rfl (and_zero_field kind)) rfl)
      (and_zero_field id)) rfl) (and_zero_field wpm)

theorem EncodeRow.setWpm (ch : Slot) (wpm : Byte) : EncodeRow.Statement (.setWpm ch wpm) :=
  and_eq_of_fields (x' := 0xF#4 ++ 0#1 ++ 0x7FFFF#19) (x'' := 0x2#4 ++ 0#1 ++ 0#19)
    (and_eq_of_fields (and_eq_of_fields rfl (and_zero_field ch.bit)) rfl) (and_zero_field wpm)

theorem EncodeRow.msgWrite (ch : Slot) (addr data : Byte) : EncodeRow.Statement (.msgWrite ch addr data) :=
  and_eq_of_fields (x' := 0xF#4 ++ 0#1 ++ 0x7FF#11 ++ 0#8) (x'' := 0x3#4 ++ 0#1 ++ 0#11 ++ 0#8)
    (and_eq_of_fields (and_eq_of_fields (and_eq_of_fields rfl (and_zero_field ch.bit)) rfl) (and_zero_field addr))
    (and_zero_field data)

theorem EncodeRow.submit (ch : Slot) (len : BitVec 9) : EncodeRow.Statement (.submit ch len) :=
  and_eq_of_fields (x' := 0xF#4 ++ 0#1 ++ 0x3FFFF#18) (x'' := 0x4#4 ++ 0#1 ++ 0#18)
    (and_eq_of_fields (and_eq_of_fields rfl (and_zero_field ch.bit)) rfl) (and_zero_field len)

theorem EncodeRow.tick (ch : Slot) : EncodeRow.Statement (.tick ch) := by cases ch <;> rfl

theorem EncodeRow.stop (ch : Slot) : EncodeRow.Statement (.stop ch) := by cases ch <;> rfl

theorem EncodeRow.isSending (ch : Slot) : EncodeRow.Statement (.isSending ch) := by cases ch <;> rfl

theorem EncodeRow.readStatus : EncodeRow.Statement .readStatus := rfl

end Sys2Proof.Laws
end

