-- ==== Sys2Proof/Laws/Step.lean ====
section
/-! SUPPORT. What each meaning and the step can do, said once: one inversion lemma for each. -/

namespace Sys2Proof.Machine

theorem execConfigure_cases {kind : BitVec 2} {id wpm : Byte} {s t : State} (h : execConfigure kind id wpm s = .next t) :
    (s.halted = true ∧ t = s) ∨
      (s.halted = false ∧ ∃ code, code ≠ .none ∧ t = s.raiseFatal code) ∨
      (s.halted = false ∧ wpm ≠ 0x00#8 ∧ ∃ c, slotOfKind kind = some c ∧ (s.chan c).configured = false ∧
        t = s.mapChan c fun ch => { ch with configured := true, id := id, wpm := wpm }) := by
  unfold execConfigure at h
  split at h
  · next hh => cases h; exact .inl ⟨hh, rfl⟩
  · next hh =>
    have hh : s.halted = false := by simpa using hh
    split at h
    · cases h; exact .inr (.inl ⟨hh, .badKind, by decide, rfl⟩)
    · next c hc =>
      split at h
      · cases h; exact .inr (.inl ⟨hh, .wpmZero, by decide, rfl⟩)
      · next hw =>
        split at h
        · cases h; exact .inr (.inl ⟨hh, .duplicate, by decide, rfl⟩)
        · next hn => cases h; exact .inr (.inr ⟨hh, hw, c, hc, by simpa using hn, rfl⟩)

theorem execSetWpm_cases {c : Slot} {wpm : Byte} {s t : State} (h : execSetWpm c wpm s = .next t) :
    t = s ∨ (s.Live c ∧ wpm = 0x00#8 ∧ t = s.raiseFatal .wpmZero) ∨
      (s.Live c ∧ wpm ≠ 0x00#8 ∧ t = s.mapChan c fun ch => { ch with wpm := wpm }) := by
  unfold execSetWpm at h
  split at h
  · cases h; exact .inl rfl
  · next hi =>
    have hl := State.ignores_eq_false.1 (by simpa using hi)
    split at h
    · next hw => cases h; exact .inr (.inl ⟨hl, hw, rfl⟩)
    · next hw => cases h; exact .inr (.inr ⟨hl, hw, rfl⟩)

theorem execMsgWrite_cases {c : Slot} {addr data : Byte} {s t : State} (h : execMsgWrite c addr data s = .next t) :
    t = s ∨ (Instr.wf s.params (.msgWrite c addr data) = false ∧ t = s.raiseIllegal) ∨
      (s.Live c ∧ (s.chan c).sending = false ∧ addr.toNat < s.params.msgDepth ∧
        t = s.memWrite c addr.toNat (foldCase data)) := by
  unfold execMsgWrite at h
  split at h
  · next hwf => cases h; exact .inr (.inl ⟨hwf, rfl⟩)
  · next hwf =>
    have ha : addr.toNat < s.params.msgDepth := by simpa [Instr.wf] using hwf
    split at h
    · cases h; exact .inl rfl
    · next hi =>
      split at h
      · cases h; exact .inl rfl
      · next hs =>
        cases h
        exact .inr (.inr ⟨State.ignores_eq_false.1 (by simpa using hi), by simpa using hs, ha, rfl⟩)

theorem execSubmit_cases {c : Slot} {n : BitVec 9} {s t : State} (h : execSubmit c n s = .next t) :
    t = s ∨ (Instr.wf s.params (.submit c n) = false ∧ t = s.raiseIllegal) ∨
      (s.Live c ∧ (s.chan c).sending = false ∧ n.toNat ≤ s.params.msgDepth ∧ t = s.mapChan c fun ch => ch.start n s.nowMs) := by
  unfold execSubmit at h
  split at h
  · next hwf => cases h; exact .inr (.inl ⟨hwf, rfl⟩)
  · next hwf =>
    have hn : n.toNat ≤ s.params.msgDepth := by simpa [Instr.wf] using hwf
    split at h
    · cases h; exact .inl rfl
    · next hi =>
      split at h
      · cases h; exact .inl rfl
      · next hs =>
        cases h
        exact .inr (.inr ⟨State.ignores_eq_false.1 (by simpa using hi), by simpa using hs, hn, rfl⟩)

/-- TICK on a live channel that sends, phase by phase (42_automaton.md R160). -/
theorem execTick_eq {c : Slot} {s : State} (hl : s.Live c) (hs : (s.chan c).sending = true) :
    execTick c s =
      match (s.chan c).phase with
      | .await => awaitChars c s.nowMs s
      | .elemOn => if expired s.nowMs (s.chan c).deadline then .next (s.gapPending c s.nowMs) else .next s
      | .gapActive =>
        if expired s.nowMs (s.chan c).deadline = false then .next s
        else if more (s.chan c).pattern (s.chan c).bitIndex = false then
          awaitChars c s.nowMs (s.mapChan c Channel.finishChar)
        else .next (s.elementOn c s.nowMs)
      | .gapPending => .fault .gapPendingAtRest := by
  unfold execTick; rw [hl.ignores, hs]; rfl

/-- All that a TICK that changes something can do. -/
theorem execTick_cases {c : Slot} {s t : State} (h : execTick c s = .next t) :
    t = s ∨
      (s.Live c ∧ (s.chan c).sending = true ∧
        (((s.chan c).phase = .await ∧ awaitChars c s.nowMs s = .next t) ∨
          ((s.chan c).phase = .elemOn ∧ expired s.nowMs (s.chan c).deadline = true ∧ t = s.gapPending c s.nowMs) ∨
          ((s.chan c).phase = .gapActive ∧ expired s.nowMs (s.chan c).deadline = true ∧
            more (s.chan c).pattern (s.chan c).bitIndex = false ∧
            awaitChars c s.nowMs (s.mapChan c Channel.finishChar) = .next t) ∨
          ((s.chan c).phase = .gapActive ∧ expired s.nowMs (s.chan c).deadline = true ∧
            more (s.chan c).pattern (s.chan c).bitIndex = true ∧ t = s.elementOn c s.nowMs))) := by
  by_cases hi : s.ignores c = true
  · exact .inl (by simpa [execTick, hi] using h.symm)
  have hl := State.ignores_eq_false.1 (by simpa using hi)
  by_cases hs : (s.chan c).sending = true
  · rw [execTick_eq hl hs] at h
    cases hp : (s.chan c).phase <;> simp only [hp] at h
    · exact .inr ⟨hl, hs, .inl ⟨rfl, h⟩⟩
    · split at h
      · next he => cases h; exact .inr ⟨hl, hs, .inr (.inl ⟨rfl, he, rfl⟩)⟩
      · cases h; exact .inl rfl
    · cases h
    · split at h
      · cases h; exact .inl rfl
      · next he =>
        have he : expired s.nowMs (s.chan c).deadline = true := by simpa using he
        split at h
        · next hm => exact .inr ⟨hl, hs, .inr (.inr (.inl ⟨rfl, he, hm, h⟩))⟩
        · next hm => cases h; exact .inr ⟨hl, hs, .inr (.inr (.inr ⟨rfl, he, by simpa using hm, rfl⟩))⟩
  · exact .inl (by simpa [execTick, hi, hs] using h.symm)

/-- TICK changes nothing outside its channel but the events (20_memory.md R61). -/
theorem execTick_sameOutside {c : Slot} {s t : State} (h : execTick c s = .next t) : SameOutside c s t := by
  rcases execTick_cases h with rfl | ⟨-, -, ⟨-, hw⟩ | ⟨-, -, rfl⟩ | ⟨-, -, -, hw⟩ | ⟨-, -, -, rfl⟩⟩
  · exact SameOutside.refl _ _
  · exact (awaitChars_next hw).1
  · exact State.gapPending_sameOutside _ _ _
  · exact (SameOutside.mapChan _ _ _).trans (awaitChars_next hw).1
  · exact State.elementOn_sameOutside _ _ _

theorem execStop_cases {c : Slot} {s t : State} (h : execStop c s = .next t) :
    t = s ∨ (s.Live c ∧ (s.chan c).actOn = false ∧ t = s.mapChan c Channel.goIdle) ∨
      (s.Live c ∧ (s.chan c).actOn = true ∧ t = (s.mapChan c Channel.goIdle).drive c false) := by
  unfold execStop at h
  split at h
  · cases h; exact .inl rfl
  · next hi =>
    have hl := State.ignores_eq_false.1 (by simpa using hi)
    simp only [State.chan_mapChan, Channel.goIdle_actOn] at h
    split at h
    · next ha => cases h; exact .inr (.inr ⟨hl, ha, rfl⟩)
    · next ha => cases h; exact .inr (.inl ⟨hl, by simpa using ha, rfl⟩)

theorem execIsSending_eq (c : Slot) (s : State) :
    execIsSending c s = .next (s.respond ((flag (s.chan c).sending).setWidth 32)) := rfl

theorem execReadStatus_eq (s : State) : execReadStatus s = .next (s.respond s.statusWord) := rfl

/-- All that a step can do. -/
theorem step_cases {s t : State} (h : step s = .next t) :
    (s.inputs = [] ∧ t = s.quiet) ∨
      (∃ rest, s.inputs = .reset :: rest ∧ t = s.resetInput rest) ∨
      (∃ word now rest i, s.inputs = .command word now :: rest ∧ decode s.params word = .ok i ∧
        exec i (s.accept now rest) = .next t) ∨
      (∃ word now rest e, s.inputs = .command word now :: rest ∧ decode s.params word = .error e ∧
        t = (s.accept now rest).raiseIllegal) := by
  unfold step at h
  split at h
  · next hi => cases h; exact .inl ⟨hi, rfl⟩
  · next rest hi => cases h; exact .inr (.inl ⟨rest, hi, rfl⟩)
  · next word now rest hi =>
    split at h
    · next i hd => exact .inr (.inr (.inl ⟨word, now, rest, i, hi, hd, h⟩))
    · next e hd => cases h; exact .inr (.inr (.inr ⟨word, now, rest, e, hi, hd, rfl⟩))

end Sys2Proof.Machine
end

