-- ==== Sys2Proof/Tests/Slice0.lean ====
section
/-! SUPPORT. The model's own tests. Every expected value comes from spec/: the encodings of 30_encoding.md R72 to R86, the ROM image
of 40_code_rom.md R109 and the vectors of 95_test_vectors.md. At the end, for each statement with hypotheses, a state and
operands that meet them all, and boundary values for its clauses. -/

namespace Sys2Proof.Tests

open Sys2Proof Sys2Proof.Machine

/-! ## Well-formedness (30_encoding.md R79, R80) -/

theorem test_wf_submit_length_257_refused : Instr.wf Params.default (.submit .cw 257#9) = false := by decide
theorem test_wf_submit_length_256 : Instr.wf Params.default (.submit .cw 256#9) = true := by decide
theorem test_wf_submit_length_5_of_depth_4_refused :
    Instr.wf { Params.default with msgDepth := 4 } (.submit .toggle 5#9) = false := by decide
theorem test_wf_msgWrite_address_4_of_depth_4_refused :
    Instr.wf { Params.default with msgDepth := 4 } (.msgWrite .toggle 4#8 0x45#8) = false := by decide
theorem test_wf_msgWrite_address_255 : Instr.wf Params.default (.msgWrite .cw 255#8 0x45#8) = true := by decide

/-! ## Decoding, each word written out bit by bit from its format (30_encoding.md R72 to R77) -/

theorem test_decode_configure :
    decode Params.default (0b0001#4 ++ 0b01#2 ++ 0b00#2 ++ 0b00000001#8 ++ 0b00000000#8 ++ 0b00010100#8) =
      .ok (.configure 1#2 1#8 20#8) := by rfl
theorem test_decode_configure_fields_apart :
    decode Params.default 0b00011000101001010000000011000011#32 = .ok (.configure 2#2 0xA5#8 0xC3#8) := by rfl
theorem test_decode_setWpm : decode Params.default 0b00101000000000000000000000011001#32 = .ok (.setWpm .cw 25#8) := by rfl
theorem test_decode_msgWrite :
    decode Params.default 0b00110000000000001010010111000011#32 = .ok (.msgWrite .toggle 0xA5#8 0xC3#8) := by rfl
theorem test_decode_submit : decode Params.default 0b01001000000000000000000100000000#32 = .ok (.submit .cw 256#9) := by rfl
theorem test_decode_submit_length_257_illegal :
    decode Params.default 0b01000000000000000000000100000001#32 = .error .lenOutOfRange := by rfl
theorem test_decode_tick : decode Params.default 0b01011000000000000000000000000000#32 = .ok (.tick .cw) := by rfl
theorem test_decode_tick_reserved_bit : decode Params.default 0b01010000000000000000000000000001#32 = .error .reservedBit := by rfl
theorem test_decode_stop : decode Params.default 0b01100000000000000000000000000000#32 = .ok (.stop .toggle) := by rfl
theorem test_decode_isSending : decode Params.default 0b01111000000000000000000000000000#32 = .ok (.isSending .cw) := by rfl
theorem test_decode_readStatus : decode Params.default 0b10000000000000000000000000000000#32 = .ok .readStatus := by rfl
theorem test_decode_opcode_9_illegal : decode Params.default 0b10010000000000000000000000000000#32 = .error .opcode := by rfl
theorem test_decodeTableWord_msgWrite : decodeTableWord 32 0x38000360 = some (.msgWrite .cw 3#8 0x60#8) := by rfl

theorem test_encode_configure : encode (.configure 2#2 0xA5#8 0xC3#8) = 0b00011000101001010000000011000011#32 := by rfl
theorem test_encode_msgWrite : encode (.msgWrite .toggle 0xA5#8 0xC3#8) = 0b00110000000000001010010111000011#32 := by rfl
theorem test_encode_submit : encode (.submit .cw 256#9) = 0b01001000000000000000000100000000#32 := by rfl

/-! ## The ROM image and the unit timing (40_code_rom.md R109, 41_unit_timing.md R133) -/

/-- The rows 0x2_ to 0x5_ of the image. -/
def romImage : List Byte :=
  [0x01, 0x75, 0x52, 0x80, 0xC8, 0x80, 0x22, 0x5E, 0x2D, 0x6D, 0x80, 0x2A, 0x73, 0x61, 0x6A, 0x29] ++
  [0x3F, 0x3E, 0x3C, 0x38, 0x30, 0x20, 0x21, 0x23, 0x27, 0x2F, 0x47, 0x55, 0x80, 0x31, 0x80, 0x4C] ++
  [0x56, 0x06, 0x11, 0x15, 0x09, 0x02, 0x14, 0x0B, 0x10, 0x04, 0x1E, 0x0D, 0x12, 0x07, 0x05, 0x0F] ++
  [0x16, 0x1B, 0x0A, 0x08, 0x03, 0x0C, 0x18, 0x0E, 0x19, 0x1D, 0x13, 0x80, 0x80, 0x80, 0x80, 0x6C]

/-- The ROM from address a on. -/
def romFrom (a n : Nat) : List Byte := (List.range n).map fun k => romRead 0x80#8 (BitVec.ofNat 8 (a + k))

theorem test_rom_image : romFrom 0x20 64 = romImage := by decide +kernel
theorem test_rom_image_low : romFrom 0x00 32 = List.replicate 32 0x80#8 := by decide +kernel
theorem test_rom_image_high : romFrom 0x60 160 = List.replicate 160 0x80#8 := by decide +kernel
theorem test_dur_11_wpm : (dur 1 11#8, dur 3 11#8, dur 7 11#8) = (110, 328, 764) := by decide
theorem test_expired_across_the_wrap : expired 0x00000005#32 0xFFFFFFFE#32 = true := by decide
theorem test_expired_half_a_turn_late : expired 0x80000000#32 0x00000000#32 = false := by decide

/-! ## The setups of 95_test_vectors.md -/

/-- T0: toggle channel, id 2, 15 wpm. -/
def setupT0 : State := { State.reset with ch0 := { Channel.reset with configured := true, id := 2#8, wpm := 15#8 } }
/-- T1: continuous-wave channel, id 1, 20 wpm. -/
def setupT1 : State := { State.reset with ch1 := { Channel.reset with configured := true, id := 1#8, wpm := 20#8 } }
/-- T0 with a message, submitted at `now`, before the first TICK. -/
def primed (msg : Memory) (len : BitVec 9) (now : Word) : State :=
  { setupT0 with nowMs := now, ch0 := { setupT0.ch0 with msg := msg, len := len, sending := true, deadline := now } }
/-- TE. -/
def setupTE : State := primed [(0, 0x45#8)] 1#9 1000#32
/-- TE1: in the dit of E. -/
def setupTE1 : State :=
  { setupTE with ch0 := { setupTE.ch0 with pattern := 0x02#8, phase := .elemOn, deadline := 1080#32, actOn := true } }
/-- TE2: in the gap after it. -/
def setupTE2 : State :=
  { setupTE with
    ch0 := { setupTE.ch0 with pattern := 0x02#8, phase := .gapActive, bitIndex := 1#3, deadline := 1320#32 } }
/-- H: halted in the dit. -/
def setupH : State := { setupTE1 with halted := true, cause := .duplicate }
/-- T1 in the dah of T, submitted and ticked at 0. -/
def toneT : State :=
  { setupT1 with
    ch1 := { setupT1.ch1 with
      msg := [(0, 0x54#8)], len := 1#9, sending := true, pattern := 0x03#8, phase := .elemOn, deadline := 180#32,
      actOn := true } }
/-- A state at another time. -/
def at_ (s : State) (now : Word) : State := { s with nowMs := now }
/-- The next state of an outcome, if it has one. -/
def after : Result → Option State
  | .next t => some t
  | _ => none

/-! ## One step of each command (95_test_vectors.md L2; the vector's name stands in the test's) -/

theorem test_V_CFG_2_configure_cw :
    (after (exec (.configure 1#2 1#8 20#8) State.reset)).map (fun t => (t.ch1, t.statusWord)) =
      some ({ Channel.reset with configured := true, id := 1#8, wpm := 20#8 }, 0x00000008#32) := by decide
theorem test_V_CFG_4_kind_before_wpm :
    (after (exec (.configure 3#2 0#8 0#8) State.reset)).map State.statusWord = some 0x00000600#32 := by decide
theorem test_V_WPM_2_zero_is_fatal :
    (after (exec (.setWpm .cw 0#8) setupT1)).map (fun t => (t.ch1.wpm, t.statusWord)) = some (20#8, 0x00000A08#32) := by
  decide
theorem test_V_WPM_5_deadline_stays :
    (after (exec (.setWpm .toggle 20#8) (at_ setupTE1 1040#32))).map (fun t => (t.ch0.wpm, t.ch0.deadline)) =
      some (20#8, 1080#32) := by decide
theorem test_V_MW_1_folded :
    (after (exec (.msgWrite .toggle 0#8 0x65#8) setupT0)).map (fun t => t.byteAt .toggle 0) = some 0x45#8 := by rfl
theorem test_V_MW_6_ignored_while_sending :
    (after (exec (.msgWrite .toggle 0#8 0x54#8) setupTE)).map (fun t => t.ch0.msg) = some [(0, 0x45#8)] := by decide
theorem test_V_SUB_1_primes :
    (after (exec (.submit .toggle 1#9) (at_ { setupT0 with ch0 := { setupT0.ch0 with msg := [(0, 0x45#8)] } } 1000#32))) =
      some setupTE := by decide
theorem test_V_SUB_2_busy : after (exec (.submit .toggle 5#9) (at_ setupTE1 1010#32)) = some (at_ setupTE1 1010#32) := by
  decide
theorem test_V_TICK_4_tie_completes :
    (after (exec (.tick .toggle) (at_ setupTE1 1080#32))).map (fun t => (t.ch0.deadline, t.evts)) =
      some (1320#32, [.setLevel 2#8 false]) := by decide
theorem test_V_TICK_10_control_run :
    (after (exec (.tick .toggle)
        (primed [(0, 0x7E#8), (1, 0x7E#8), (2, 0x60#8), (3, 0x7E#8), (4, 0x45#8)] 5#9 0#32))).map
      (fun t => (t.ch0.charIndex, t.statusWord)) = some (4#9, 0x00000055#32) := by decide
theorem test_V_STOP_1_drives_off :
    (after (exec (.stop .toggle) (at_ setupTE1 1040#32))).map (fun t => (t.ch0.deadline, t.evts)) =
      some (1080#32, [.setLevel 2#8 false]) := by decide
theorem test_V_STOP_5_disables_the_tone :
    (after (exec (.stop .cw) (at_ toneT 100#32))).map (fun t => (t.ch1.actOn, t.evts)) =
      some (false, [.disableTone 1#8]) := by decide
theorem test_V_IS_2_trailing_gap :
    (after (exec (.isSending .toggle) (at_ setupTE2 1319#32))).map State.rsp = some (some 1#32) := by decide
theorem test_V_IS_5_halted : (after (exec (.isSending .toggle) setupH)).map State.rsp = some (some 1#32) := by decide
theorem test_V_RS_3_both_channels :
    (after (exec .readStatus { toneT with ch0 := setupT0.ch0 })).map State.rsp = some (some 0x0000002E#32) := by decide
theorem test_V_RS_6_halted : (after (exec .readStatus setupH)).map State.rsp = some (some 0x00000E15#32) := by decide
theorem test_V_TICK_12_illegal_word :
    (after (step (setupTE.withFetchWord 32 0x50000001))).map State.statusWord = some 0x00000105#32 := by decide
theorem test_step_runs_the_offered_word :
    (after (step (setupTE.withFetchWord 32 0x50000000))).map State.evts = some [.setLevel 2#8 true] := by decide

/-! ## States that meet the invariant, for the witnesses below -/

theorem reset_channel_inv : Channel.reset.Inv Params.default := by constructor <;> decide

theorem setupT0_inv : setupT0.Inv := by
  refine ⟨by decide, fun c => ?_, by decide⟩
  cases c
  · constructor <;> decide
  · exact reset_channel_inv

theorem setupTE1_inv : setupTE1.Inv := by
  refine ⟨by decide, fun c => ?_, by decide⟩
  cases c
  · constructor <;> decide
  · exact reset_channel_inv

theorem setupTE2_inv : setupTE2.Inv := by
  refine ⟨by decide, fun c => ?_, by decide⟩
  cases c
  · constructor <;> decide
  · exact reset_channel_inv

/-! ## Witnesses: encoding and the step -/

/-- A state whose next input is a command word. -/
def offered (s : State) (word : Word) : State := { s with inputs := [.command word 7#32] }

theorem witness_WorkedEncodingsBothWays : State.reset.halted = false := by decide
theorem witness_DecodeOfEncode :
    Instr.wf Params.default (.submit .cw 256#9) = true ∧ Instr.wf Params.default (.msgWrite .toggle 255#8 0#8) = true ∧
      Instr.wf { Params.default with msgDepth := 4 } (.msgWrite .toggle 3#8 0#8) = true := by decide
theorem witness_EncodeOfDecode : decode Params.default 0x10FFFFFF#32 = .error .reservedBit ∧
    decode Params.default 0x1CFF00FF#32 = .ok (.configure 3#2 0xFF#8 0xFF#8) := ⟨rfl, rfl⟩
theorem witness_IllegalWordsAreExactlyThese_illegal :
    ∀ w ∈ [0x0FFFFFFF#32, 0x90000000#32, 0x11000000#32, 0x20000100#32, 0x30010000#32, 0x40000200#32, 0x50000001#32,
      0x60000001#32, 0x7FFFFFFF#32, 0x80000001#32, 0x40000101#32], ∃ e, decode Params.default w = .error e := by
  intro w hw
  fin_cases hw <;> exact ⟨_, rfl⟩
theorem witness_IllegalWordsAreExactlyThese_address :
    decode { Params.default with msgDepth := 255 } 0x3000FF00#32 = .error .addrOutOfRange ∧
      decode { Params.default with msgDepth := 255 } 0x3000FE00#32 = .ok (.msgWrite .toggle 254#8 0#8) := ⟨rfl, rfl⟩
theorem witness_IllegalWordsAreExactlyThese_params :
    ({ Params.default with notFoundCode := 0x05#8 } : Params).msgDepth = Params.default.msgDepth := rfl
theorem witness_OperandsAreTakenInPlace :
    decode Params.default 0x3800FF01#32 = .ok (.msgWrite .cw 0xFF#8 0x01#8) ∧
      (∀ c, Instr.stop .cw ≠ .tick c) ∧ ∀ c n, Instr.stop .cw ≠ .submit c n :=
  ⟨rfl, by intro c; simp, by intro c n; simp⟩
theorem witness_StepRunsTheDecodedCommand :
    (offered setupTE 0x50000000#32).inputs = .command 0x50000000#32 7#32 :: [] ∧
      decode (offered setupTE 0x50000000#32).params 0x50000000#32 = .ok (.tick .toggle) := ⟨rfl, rfl⟩
theorem witness_IllegalWordsOnlySetIll :
    (offered setupTE 0x50000001#32).inputs = .command 0x50000001#32 7#32 :: [] ∧
      decode (offered setupTE 0x50000001#32).params 0x50000001#32 = .error .reservedBit := ⟨rfl, rfl⟩
theorem witness_IllegalWordsOnlySetIll_halted :
    (offered setupH 0x00000000#32).halted = true ∧
      decode (offered setupH 0x00000000#32).params 0x00000000#32 = .error .opcode := ⟨rfl, rfl⟩
theorem witness_IllegalWordsOnlySetIll_stays :
    (offered { setupTE with ill := true } 0x50000000#32).NoReset ∧
      (∃ t, step (offered { setupTE with ill := true } 0x50000000#32) = .next t) ∧
      (offered { setupTE with ill := true } 0x50000000#32).ill = true := ⟨by decide, ⟨_, rfl⟩, rfl⟩
theorem witness_WaitingChangesNoRegister : setupTE1.inputs = [] := rfl
theorem witness_ResetInputRestoresEveryRegister :
    ({ setupTE1 with inputs := [.reset] } : State).inputs = .reset :: [] := rfl
theorem witness_OnlyResetEndsHaltAndClearsIll :
    (offered { setupH with ill := true } 0x60000000#32).NoReset ∧
      (∃ t, step (offered { setupH with ill := true } 0x60000000#32) = .next t) ∧
      (offered { setupH with ill := true } 0x60000000#32).halted = true ∧
      (offered { setupH with ill := true } 0x60000000#32).ill = true := ⟨by decide, ⟨_, rfl⟩, rfl, rfl⟩
theorem witness_OnlyResetEndsHaltAndClearsIll_reset :
    ({ setupH with inputs := [.reset] } : State).inputs = .reset :: [] := rfl
theorem witness_HaltedBlockAnswersOnlyReads :
    setupH.halted = true ∧ Instr.tick .toggle ≠ .readStatus ∧ ∀ c, Instr.tick .toggle ≠ .isSending c :=
  ⟨rfl, by simp, by simp⟩
theorem witness_HaltedBlockAnswersOnlyReads_illegal :
    (offered setupH 0x90000000#32).halted = true ∧
      (offered setupH 0x90000000#32).inputs = .command 0x90000000#32 7#32 :: [] ∧
      decode (offered setupH 0x90000000#32).params 0x90000000#32 = .error .opcode := ⟨rfl, rfl, rfl⟩
theorem witness_UnconfiguredSlotIgnoresCommands :
    setupTE1.Inv ∧ (setupTE1.chan .cw).configured = false ∧ (255#8).toNat < setupTE1.params.msgDepth ∧
      (256#9).toNat ≤ setupTE1.params.msgDepth := ⟨setupTE1_inv, by decide, by decide, by decide⟩
theorem witness_FatalErrorsRecordTheirCause :
    setupT0.halted = false ∧ fatalCause setupT0 (.configure 2#2 0#8 0#8) = .badKind ∧
      fatalCause setupT0 (.configure 1#2 0#8 0#8) = .wpmZero ∧ fatalCause setupT0 (.configure 0#2 0#8 1#8) = .duplicate ∧
      fatalCause setupT0 (.setWpm .toggle 0#8) = .wpmZero := by decide
theorem witness_FatalErrorsRecordTheirCause_none :
    setupT0.halted = false ∧ fatalCause setupT0 (.setWpm .cw 0#8) = .none ∧
      ∃ t, exec (.setWpm .cw 0#8) setupT0 = .next t := ⟨by decide, by decide, ⟨_, rfl⟩⟩
theorem witness_ErrorsArePrecise :
    ∃ t, exec (.setWpm .toggle 0#8) setupTE1 = .next t ∧ t.halted ≠ setupTE1.halted ∧ t.cause ≠ setupTE1.cause :=
  ⟨_, rfl, by decide, by decide⟩
theorem witness_ErrorsArePrecise_ill :
    ∃ t, exec (.submit .toggle 257#9) setupTE1 = .next t ∧ t.ill ≠ setupTE1.ill := ⟨_, rfl, by decide⟩
theorem witness_ErrorsArePrecise_tick : ∃ t, exec (.tick .toggle) setupTE = .next t := ⟨_, rfl⟩

/-! ## Witnesses: CONFIGURE to READ_STATUS -/

theorem witness_ConfigureBindsAFreeSlot_fatal :
    setupT0.halted = false ∧ 2 ≤ (2#2).toNat ∧ (1#2).toNat < 2 ∧ (0#2).toNat < 2 ∧ 1#8 ≠ 0x00#8 ∧
      (setupT0.chan (if 0#2 = 1#2 then .cw else .toggle)).configured = true := by decide
theorem witness_ConfigureBindsAFreeSlot_free :
    setupT0.halted = false ∧ (1#2).toNat < 2 ∧ 1#8 ≠ 0x00#8 ∧
      (setupT0.chan (if 1#2 = 1#2 then .cw else .toggle)).configured = false ∧ setupH.halted = true := by decide
theorem witness_SetWpmChangesOnlyTheRate :
    setupH.halted = true ∧ setupT0.halted = false ∧ (setupT0.chan .cw).configured = false ∧ setupT0.Live .toggle ∧
      1#8 ≠ 0x00#8 := by decide
theorem witness_NewRateAppliesFromTheNextDeadline_tone :
    setupTE1.Running .toggle ∧ 20#8 ≠ 0x00#8 ∧ expired 1079#32 (setupTE1.chan .toggle).deadline = false ∧
      expired 1080#32 (setupTE1.chan .toggle).deadline = true ∧ (setupTE1.chan .toggle).phase = .elemOn ∧
      ∃ t u, exec (.setWpm .toggle 20#8) setupTE1 = .next t ∧ exec (.tick .toggle) { t with nowMs := 1080#32 } = .next u :=
  ⟨by decide, by decide, by decide, by decide, by decide, _, _, rfl, rfl⟩
/-- In the gap after the first element of A. -/
def gapA : State :=
  { setupTE2 with ch0 := { setupTE2.ch0 with msg := [(0, 0x41#8)], pattern := 0x06#8, deadline := 1160#32 } }
theorem witness_NewRateAppliesFromTheNextDeadline_gap :
    gapA.Running .toggle ∧ expired 1159#32 (gapA.chan .toggle).deadline = false ∧
      expired 1160#32 (gapA.chan .toggle).deadline = true ∧ (gapA.chan .toggle).phase = .gapActive ∧
      more (gapA.chan .toggle).pattern (gapA.chan .toggle).bitIndex = true := by decide
theorem witness_CaseFoldChangesOnlyLowerCase :
    (0x61 ≤ (0x61#8).toNat ∧ (0x61#8).toNat ≤ 0x7A) ∧ (0x61 ≤ (0x7A#8).toNat ∧ (0x7A#8).toNat ≤ 0x7A) ∧
      ¬(0x61 ≤ (0x60#8).toNat ∧ (0x60#8).toNat ≤ 0x7A) ∧ ¬(0x61 ≤ (0x7B#8).toNat ∧ (0x7B#8).toNat ≤ 0x7A) := by decide
theorem witness_MsgWriteStoresTheFoldedByte_address :
    ({ setupT0 with params := { Params.default with msgDepth := 255 } } : State).params.msgDepth ≤ (255#8).toNat ∧
      (254#8).toNat < ({ setupT0 with params := { Params.default with msgDepth := 255 } } : State).params.msgDepth := by decide
theorem witness_MsgWriteStoresTheFoldedByte :
    (255#8).toNat < setupT0.params.msgDepth ∧ setupT0.Live .toggle ∧ (setupT0.chan .toggle).sending = false ∧
      (setupT0.chan .cw).configured = false ∧ setupTE.Live .toggle ∧ (setupTE.chan .toggle).sending = true ∧
      setupH.halted = true := by decide
theorem witness_SubmitPrimesTheChannel :
    setupT0.params.msgDepth < (257#9).toNat ∧ (256#9).toNat ≤ setupT0.params.msgDepth ∧ setupT0.Live .toggle ∧
      (setupT0.chan .toggle).sending = false ∧ (setupT0.chan .cw).configured = false ∧ setupTE.Live .toggle ∧
      (setupTE.chan .toggle).sending = true ∧ setupH.halted = true := by decide
theorem witness_BusySubmitIsANoOp :
    (256#9).toNat ≤ setupTE1.params.msgDepth ∧ (setupTE1.chan .toggle).sending = true := by decide
theorem witness_StopIdlesAndDrivesOff :
    setupH.halted = true ∧ setupT0.halted = false ∧ (setupT0.chan .cw).configured = false ∧ setupTE1.Live .toggle ∧
      (setupTE1.chan .toggle).actOn = true ∧ toneT.Live .cw ∧ (toneT.chan .cw).actOn = true ∧ setupTE2.Live .toggle ∧
      (setupTE2.chan .toggle).actOn = false := by decide

/-! ## Witnesses: TICK -/

theorem witness_EarlyTickChangesNothing :
    setupH.halted = true ∧ (setupT0.chan .cw).configured = false ∧ (setupT0.chan .toggle).sending = false ∧
      (setupTE1.chan .toggle).phase = .elemOn ∧
      expired (at_ setupTE1 1079#32).nowMs ((at_ setupTE1 1079#32).chan .toggle).deadline = false ∧
      (setupTE2.chan .toggle).phase = .gapActive ∧
      expired (at_ setupTE2 1319#32).nowMs ((at_ setupTE2 1319#32).chan .toggle).deadline = false := by decide
theorem witness_TickEndsAnElement :
    (at_ setupTE1 1080#32).Running .toggle ∧ ((at_ setupTE1 1080#32).chan .toggle).phase = .elemOn ∧
      expired (at_ setupTE1 1080#32).nowMs ((at_ setupTE1 1080#32).chan .toggle).deadline = true := by decide
theorem witness_TickEndsAGap :
    (at_ setupTE2 1320#32).Running .toggle ∧ ((at_ setupTE2 1320#32).chan .toggle).phase = .gapActive ∧
      expired 1320#32 ((at_ setupTE2 1320#32).chan .toggle).deadline = true ∧
      more (setupTE2.chan .toggle).pattern (setupTE2.chan .toggle).bitIndex = false ∧
      expired 1319#32 ((at_ setupTE2 1319#32).chan .toggle).deadline = false := by decide
theorem witness_TickEndsAGap_element :
    (at_ gapA 1160#32).Running .toggle ∧ ((at_ gapA 1160#32).chan .toggle).phase = .gapActive ∧
      expired 1160#32 ((at_ gapA 1160#32).chan .toggle).deadline = true ∧
      more (gapA.chan .toggle).pattern (gapA.chan .toggle).bitIndex = true := by decide
theorem witness_AwaitReadsTheNextCharacter :
    ∀ b ∈ [0x7E#8, 0x60#8, 0x20#8, 0x45#8], (primed [(0, b)] 1#9 0#32).Running .toggle ∧
      ((primed [(0, b)] 1#9 0#32).chan .toggle).phase = .await ∧
      ((primed [(0, b)] 1#9 0#32).chan .toggle).charIndex ≠ ((primed [(0, b)] 1#9 0#32).chan .toggle).len ∧
      ((primed [(0, b)] 1#9 0#32).chan .toggle).charIndex.toNat < (primed [(0, b)] 1#9 0#32).params.msgDepth := by decide
theorem witness_AwaitReadsTheNextCharacter_byte (b : Byte) : (primed [(0, b)] 1#9 0#32).byteAt .toggle 0 = b := rfl
theorem witness_AwaitReadsTheNextCharacter_end :
    (primed [] 0#9 0#32).Running .toggle ∧ ((primed [] 0#9 0#32).chan .toggle).phase = .await ∧
      ((primed [] 0#9 0#32).chan .toggle).charIndex = ((primed [] 0#9 0#32).chan .toggle).len := by decide
theorem witness_TickNeverStops : setupTE1.Inv := setupTE1_inv
theorem witness_TickAtTheDeadlineCompletes :
    (at_ setupTE1 1080#32).Running .toggle ∧ ((at_ setupTE1 1080#32).chan .toggle).phase = .elemOn ∧
      (at_ setupTE1 1080#32).nowMs = ((at_ setupTE1 1080#32).chan .toggle).deadline := by decide
theorem witness_TickAtTheDeadlineCompletes_gap :
    (at_ setupTE2 1320#32).Inv ∧ (at_ setupTE2 1320#32).Running .toggle ∧
      ((at_ setupTE2 1320#32).chan .toggle).phase = .gapActive ∧
      (at_ setupTE2 1320#32).nowMs = ((at_ setupTE2 1320#32).chan .toggle).deadline :=
  ⟨⟨setupTE2_inv.params, fun c => by cases c; exacts [setupTE2_inv.chan .toggle, setupTE2_inv.chan .cw],
    setupTE2_inv.cause_iff⟩, by decide, by decide, by decide⟩
theorem witness_SecondTickAtOneTimeChangesNothing :
    setupTE2.Inv ∧ ∃ t, exec (.tick .toggle) setupTE2 = .next t := ⟨setupTE2_inv, _, rfl⟩
/-- A tilde, a backtick and a last character. -/
def controlRun (b : Byte) (len : BitVec 9) : State := primed [(0, 0x7E#8), (1, 0x60#8), (2, b)] len 0#32
theorem witness_OneTickConsumesAControlRun_character :
    (controlRun 0x45#8 3#9).Running .toggle ∧ ((controlRun 0x45#8 3#9).chan .toggle).phase = .await ∧
      ((controlRun 0x45#8 3#9).chan .toggle).len.toNat ≤ (controlRun 0x45#8 3#9).params.msgDepth ∧
      (∀ j < 2, isControl ((controlRun 0x45#8 3#9).byteAt .toggle
        (((controlRun 0x45#8 3#9).chan .toggle).charIndex.toNat + j)) = true) ∧
      ((controlRun 0x45#8 3#9).chan .toggle).charIndex.toNat + 2 < ((controlRun 0x45#8 3#9).chan .toggle).len.toNat ∧
      isControl ((controlRun 0x45#8 3#9).byteAt .toggle
        (((controlRun 0x45#8 3#9).chan .toggle).charIndex.toNat + 2)) = false := by
  refine ⟨by decide, by decide, by decide, fun j hj => ?_, by decide, by decide⟩
  interval_cases j <;> decide
theorem witness_OneTickConsumesAControlRun_end :
    (controlRun 0x7E#8 3#9).Running .toggle ∧ ((controlRun 0x7E#8 3#9).chan .toggle).phase = .await ∧
      (∀ j < 3, isControl ((controlRun 0x7E#8 3#9).byteAt .toggle
        (((controlRun 0x7E#8 3#9).chan .toggle).charIndex.toNat + j)) = true) ∧
      ((controlRun 0x7E#8 3#9).chan .toggle).charIndex.toNat + 3 = ((controlRun 0x7E#8 3#9).chan .toggle).len.toNat := by
  refine ⟨by decide, by decide, fun j hj => ?_, by decide⟩
  interval_cases j <;> decide
theorem witness_ControlOnlyMessageEndsAtOnce :
    ({ setupT0 with ch0 := { setupT0.ch0 with msg := [(0, 0x7E#8)] } } : State).Live .toggle ∧
      (setupT0.chan .toggle).sending = false ∧ (1#9).toNat ≤ setupT0.params.msgDepth ∧
      ∀ a < (1#9).toNat,
        isControl (({ setupT0 with ch0 := { setupT0.ch0 with msg := [(0, 0x7E#8)] } } : State).byteAt .toggle a) = true := by
  refine ⟨by decide, by decide, by decide, fun a ha => ?_⟩
  obtain rfl : a = 0 := by simpa using ha
  decide
theorem witness_DigraphChoosesOnlyTheLastGap :
    (at_ setupTE1 1080#32).Running .toggle ∧ ((at_ setupTE1 1080#32).chan .toggle).phase = .elemOn ∧
      more ((at_ setupTE1 1080#32).chan .toggle).pattern (((at_ setupTE1 1080#32).chan .toggle).bitIndex + 1#3) = false ∧
      expired (at_ setupTE1 1080#32).nowMs ((at_ setupTE1 1080#32).chan .toggle).deadline = true ∧
      (gapA.chan .toggle).phase ≠ .elemOn := by decide
theorem witness_LastCharacterKeepsItsTrailingGap :
    (at_ setupTE1 1080#32).Running .toggle ∧ ((at_ setupTE1 1080#32).chan .toggle).phase = .elemOn ∧
      expired (at_ setupTE1 1080#32).nowMs ((at_ setupTE1 1080#32).chan .toggle).deadline = true ∧
      more ((at_ setupTE1 1080#32).chan .toggle).pattern (((at_ setupTE1 1080#32).chan .toggle).bitIndex + 1#3) = false ∧
      ((at_ setupTE1 1080#32).chan .toggle).charIndex + 1#9 = ((at_ setupTE1 1080#32).chan .toggle).len ∧
      expired 1319#32 1320#32 = false ∧ expired 1320#32 1320#32 = true := by decide
theorem witness_PromptTicksSendEveryElement :
    setupTE1.Inv ∧ setupTE1.Running .toggle ∧ (setupTE1.chan .toggle).phase = .elemOn ∧
      (setupTE1.chan .toggle).bitIndex = 0#3 ∧ (setupTE1.chan .toggle).pattern ≠ 0x01#8 ∧
      (setupTE1.chan .toggle).deadline = setupTE1.nowMs + BitVec.ofNat 32
        (dur (if (setupTE1.chan .toggle).pattern.getLsbD 0 then 3 else 1) (setupTE1.chan .toggle).wpm) ∧
      0 < nelem (setupTE1.chan .toggle).pattern :=
  ⟨setupTE1_inv, by decide, by decide, by decide, by decide, by decide, by decide⟩
theorem witness_SpaceIsASilentHoldAndGap :
    (primed [(0, 0x20#8)] 1#9 0#32).Running .toggle ∧ ((primed [(0, 0x20#8)] 1#9 0#32).chan .toggle).phase = .await ∧
      ((primed [(0, 0x20#8)] 1#9 0#32).chan .toggle).digraph = false ∧
      ((primed [(0, 0x20#8)] 1#9 0#32).chan .toggle).charIndex ≠ ((primed [(0, 0x20#8)] 1#9 0#32).chan .toggle).len ∧
      ((primed [(0, 0x20#8)] 1#9 0#32).chan .toggle).charIndex.toNat < (primed [(0, 0x20#8)] 1#9 0#32).params.msgDepth ∧
      (primed [(0, 0x20#8)] 1#9 0#32).byteAt .toggle ((primed [(0, 0x20#8)] 1#9 0#32).chan .toggle).charIndex.toNat =
        0x20#8 := ⟨by decide, by decide, by decide, by decide, by decide, rfl⟩
theorem witness_TransmissionEnds :
    setupT0.Inv ∧ setupT0.Live .toggle ∧ (setupT0.chan .toggle).sending = false ∧
      (256#9).toNat ≤ setupT0.params.msgDepth ∧
      ∀ k, (fun k => k * (2 ^ 31 - 1)) k < (fun k => k * (2 ^ 31 - 1)) (k + 1) ∧
        (fun k => k * (2 ^ 31 - 1)) (k + 1) - (fun k => k * (2 ^ 31 - 1)) k ≤ 2 ^ 31 - 1 :=
  ⟨setupT0_inv, by decide, by decide, by decide, fun k => ⟨by simp only; omega, by simp only; omega⟩⟩

/-! ## Witnesses: timing, the ROM and the whole machine -/

theorem witness_DurationIsTheExactCeiling : 1#8 ≠ 0x00#8 ∧ 255#8 ≠ 0x00#8 := by decide
theorem witness_ExpiryTestFollowsTheTimeLine :
    (5 ≤ 5 + (2 ^ 31 - 1) ∧ 5 + (2 ^ 31 - 1) - 5 ≤ 2 ^ 31 - 1) ∧ (5 < 5 + (2 ^ 31 - 1) ∧ 5 + (2 ^ 31 - 1) - 5 ≤ 2 ^ 31 - 1) ∧
      (5 ≤ 5 + 2 ^ 31 ∧ 2 ^ 31 ≤ 5 + 2 ^ 31 - 5 ∧ 5 + 2 ^ 31 - 5 < 2 ^ 32) := by decide
theorem witness_MoreMeansElementsRemain : 0x01#8 ≠ 0x00#8 ∧ 0xFF#8 ≠ 0x00#8 := by decide
theorem witness_DriveSkipsOnlyRedundantTones :
    true = (toneT.chan .cw).actOn ∧ false ≠ (toneT.chan .cw).actOn := by decide
theorem witness_EventAndLevelPortsAgree :
    ∃ t, step (offered setupTE 0x50000000#32) = .next t ∧ t.evts ≠ [] := ⟨_, rfl, by decide⟩
theorem witness_EveryRegisterHasItsWriters :
    ∃ t, exec (.tick .toggle) setupTE = .next t ∧ (t.chan .toggle).actOn ≠ (setupTE.chan .toggle).actOn ∧
      (t.chan .toggle).phase ≠ (setupTE.chan .toggle).phase ∧ t.evts ≠ setupTE.evts := ⟨_, rfl, by decide, by decide, by decide⟩
theorem witness_OnlyAnIdleMsgWriteChangesAByte :
    let s := offered { setupT0 with ch0 := { setupT0.ch0 with msg := [(255, 0x20#8)] } } 0x3000FF65#32
    s.NoReset ∧ ∃ t, step s = .next t ∧ t.byteAt .toggle 255 ≠ s.byteAt .toggle 255 :=
  ⟨by decide, _, rfl, by decide⟩
theorem witness_ChannelsAreIndependent :
    slotOf (.tick .toggle) = some .toggle ∧ ∃ t, exec (.tick .toggle) setupTE = .next t := ⟨rfl, _, rfl⟩
theorem witness_StepKeepsInvariant :
    (offered setupTE1 0x50000000#32).Inv ∧ ∃ t, step (offered setupTE1 0x50000000#32) = .next t :=
  ⟨⟨setupTE1_inv.params, fun c => by cases c; exacts [setupTE1_inv.chan .toggle, setupTE1_inv.chan .cw],
    setupTE1_inv.cause_iff⟩, _, rfl⟩
theorem witness_SoundStatesNeverStop : setupTE2.Inv := setupTE2_inv

end Sys2Proof.Tests
end

