-- ==== Sys2Proof/Proofs/StateFamily.lean ====
section
/-! The registers at reset (10_state.md R42) and the status word (10_state.md R37). -/

namespace Sys2Proof.Machine

open Sys2Proof.Laws

/-! ## A chain of fields that ends in a flag -/

/-- The last flag of a chain is bit 0. -/
theorem bit_append_flag_zero {n : Nat} (x : BitVec n) (b : Bool) : (x ++ flag b).getLsbD 0 = b := by
  rw [bit_low _ _ 0 Nat.one_pos]; simp [flag]

/-- The fields before the last flag stand one bit higher than without it. -/
theorem bit_append_flag_succ {n : Nat} (x : BitVec n) (b : Bool) (k : Nat) :
    (x ++ flag b).getLsbD (k + 1) = x.getLsbD k := by
  rw [Nat.add_comm k 1, bit_high]

/-- `bit_append_flag_succ` for a field of several bits. -/
theorem field_append_flag_succ {n : Nat} (x : BitVec n) (b : Bool) (k l : Nat) :
    (x ++ flag b).extractLsb' (k + 1) l = x.extractLsb' k l := by
  rw [Nat.add_comm k 1, field_high]

/-! ## Reset -/

@[simp] theorem State.chan_reset (c : Slot) : State.reset.chan c = Channel.reset := by cases c <;> rfl

/-- No message byte has been written since reset (10_state.md R42, 20_memory.md R52). -/
theorem Channel.read_msg_reset (a : Nat) : Channel.reset.msg.read a = none := Memory.read_nil a

/-! ## The status word -/

/-- Each one-bit entry of the R37 table: bit k is the flag with k flags after it in the chain. -/
theorem State.statusWord_bits (s : State) :
    s.statusWord.getLsbD 0 = s.ch0.sending ∧ s.statusWord.getLsbD 1 = s.ch1.sending ∧
    s.statusWord.getLsbD 2 = s.ch0.configured ∧ s.statusWord.getLsbD 3 = s.ch1.configured ∧
    s.statusWord.getLsbD 4 = s.ch0.actOn ∧ s.statusWord.getLsbD 5 = s.ch1.actOn ∧
    s.statusWord.getLsbD 6 = s.ch0.digraph ∧ s.statusWord.getLsbD 7 = s.ch1.digraph ∧
    s.statusWord.getLsbD 8 = s.ill ∧ s.statusWord.getLsbD 9 = s.halted := by
  unfold State.statusWord
  and_intros <;> simp only [bit_append_flag_succ, bit_append_flag_zero]

/-- The two entries of the R37 table above the ten flags: the cause and the zero bits. -/
theorem State.statusWord_fields (s : State) :
    s.statusWord.extractLsb' 10 2 = s.cause.code ∧ s.statusWord.extractLsb' 12 20 = 0#20 := by
  unfold State.statusWord
  simp only [field_append_flag_succ]
  exact ⟨(field_low _ _ 0 2 le_rfl).trans (field_all _), (field_high _ _ 0 20).trans (field_all _)⟩

/-- Nothing is raised and no flag is set right after reset. -/
theorem State.statusWord_reset : State.reset.statusWord = 0x00000000#32 := by decide

/-! ## The statements -/

/-- Settles O10: both slots hold the one reset channel, read field by field. -/
theorem registersAtReset : Obligations.RegistersAtReset := by
  refine ⟨rfl, rfl, fun c => ?_, rfl, rfl, rfl⟩
  rw [State.chan_reset]
  exact ⟨rfl, rfl, rfl, rfl, rfl, rfl, rfl, rfl, rfl, rfl, rfl, rfl, Channel.read_msg_reset⟩

/-- Settles O25: READ_STATUS answers `statusWord`, whose bits and fields the lemmas above give. -/
theorem statusWordShowsEveryFlag : Obligations.StatusWordShowsEveryFlag := by
  refine ⟨fun s => ⟨s.statusWord, execReadStatus_eq s, ?_⟩, ?_⟩
  · obtain ⟨h0, h1, h2, h3, h4, h5, h6, h7, h8, h9⟩ := s.statusWord_bits
    exact ⟨h0, h1, h2, h3, h4, h5, h6, h7, h8, h9, s.statusWord_fields⟩
  · rw [← State.statusWord_reset]; exact execReadStatus_eq State.reset

end Sys2Proof.Machine
end

