-- ==== Sys2Proof/Proofs/MemoryFamily.lean ====
section
/-! Independence of the channels (20_memory.md R61). Replacing the other channel commutes with every operation on channel c; the
frame is the case in which the other channel is replaced by itself. -/

namespace Sys2Proof.Machine

/-! ## Replacing the other channel commutes with the operations on states -/

@[simp] theorem State.mapChan_setChan_other (s : State) (c : Slot) (o : Channel) (f : Channel → Channel) :
    (s.setChan (otherSlot c) o).mapChan c f = (s.mapChan c f).setChan (otherSlot c) o := by cases c <;> rfl

@[simp] theorem State.memWrite_setChan_other (s : State) (c : Slot) (o : Channel) (a : Nat) (v : Byte) :
    (s.setChan (otherSlot c) o).memWrite c a v = (s.memWrite c a v).setChan (otherSlot c) o :=
  s.mapChan_setChan_other c o _

@[simp] theorem State.raiseFatal_setChan (s : State) (c : Slot) (o : Channel) (k : Cause) :
    (s.setChan c o).raiseFatal k = (s.raiseFatal k).setChan c o := by cases c <;> rfl

@[simp] theorem State.raiseIllegal_setChan (s : State) (c : Slot) (o : Channel) :
    (s.setChan c o).raiseIllegal = s.raiseIllegal.setChan c o := by
  rw [State.raiseIllegal_eq, State.raiseIllegal_eq]; cases c <;> rfl

@[simp] theorem State.respond_setChan (s : State) (c : Slot) (o : Channel) (v : Word) :
    (s.setChan c o).respond v = (s.respond v).setChan c o := by cases c <;> rfl

@[simp] theorem State.addEvts_setChan (s : State) (c : Slot) (o : Channel) (l : List Event) :
    (s.setChan c o).addEvts l = (s.addEvts l).setChan c o := by cases c <;> rfl

@[simp] theorem State.drive_setChan_other (s : State) (c : Slot) (o : Channel) (on : Bool) :
    (s.setChan (otherSlot c) o).drive c on = (s.drive c on).setChan (otherSlot c) o := by
  simp [State.drive_eq, State.setAct]

@[simp] theorem State.elementOn_setChan_other (s : State) (c : Slot) (o : Channel) (now : Word) :
    (s.setChan (otherSlot c) o).elementOn c now = (s.elementOn c now).setChan (otherSlot c) o := by
  unfold State.elementOn
  by_cases h : (s.chan c).pattern = wordSpace <;> simp [h]

@[simp] theorem State.gapPending_setChan_other (s : State) (c : Slot) (o : Channel) (now : Word) :
    (s.setChan (otherSlot c) o).gapPending c now = (s.gapPending c now).setChan (otherSlot c) o := by
  unfold State.gapPending
  by_cases h : (s.chan c).pattern = wordSpace <;> simp [h]

@[simp] theorem State.loadChar_setChan_other (s : State) (c : Slot) (o : Channel) (b : Byte) (now : Word) :
    (s.setChan (otherSlot c) o).loadChar c b now = (s.loadChar c b now).setChan (otherSlot c) o := by
  simp [State.loadChar_eq]

/-! ## What is read of channel c does not depend on the other channel -/

@[simp] theorem State.ignores_setChan_other (s : State) (c : Slot) (o : Channel) :
    (s.setChan (otherSlot c) o).ignores c = s.ignores c := by simp [State.ignores]

@[simp] theorem State.byteAt_setChan_other (s : State) (c : Slot) (o : Channel) (a : Nat) :
    (s.setChan (otherSlot c) o).byteAt c a = s.byteAt c a := State.byteAt_congr (by simp) (by simp) a

@[simp] theorem State.nextByte_setChan_other (s : State) (c : Slot) (o : Channel) :
    (s.setChan (otherSlot c) o).nextByte c = s.nextByte c := by simp [State.nextByte]

/-! ## Outcomes -/

@[simp] theorem mapNext_next (f : State → State) (t : State) : mapNext f (.next t) = .next (f t) := rfl
@[simp] theorem mapNext_fault (f : State → State) (r : Fault) : mapNext f (.fault r) = .fault r := rfl

/-- A meaning on which replacing the channel other than c has no effect but that replacement itself. -/
def IndependentOfOther (c : Slot) (run : State → Result) : Prop :=
  ∀ (s : State) (o : Channel),
    run (s.setChan (otherSlot c) o) = mapNext (fun t => t.setChan (otherSlot c) o) (run s)

/-- Independence gives the frame: replacing the other channel by itself changes nothing before the command, so it changes
nothing after it. -/
theorem IndependentOfOther.chan_other {c : Slot} {run : State → Result} (hrun : IndependentOfOther c run) {s t : State}
    (h : run s = .next t) : t.chan (otherSlot c) = s.chan (otherSlot c) := by
  have hself := hrun s (s.chan (otherSlot c))
  rw [State.setChan_chan, h, mapNext_next] at hself
  have ht : t = t.setChan (otherSlot c) (s.chan (otherSlot c)) := Host.Outcome.next.inj hself
  rw [ht, State.chan_setChan]

/-! ## The meanings -/

theorem execConfigure_independent {kind : BitVec 2} {c : Slot} (hc : slotOfKind kind = some c) (id wpm : Byte) :
    IndependentOfOther c (execConfigure kind id wpm) := by
  intro s o
  simp only [execConfigure, hc, State.setChan_halted, State.chan_setChan_other']
  by_cases hh : s.halted = true
  · simp [hh]
  · by_cases hw : wpm = 0x00#8
    · simp [hh, hw]
    · by_cases hd : (s.chan c).configured = true <;> simp [hh, hw, hd]

theorem execSetWpm_independent (c : Slot) (wpm : Byte) : IndependentOfOther c (execSetWpm c wpm) := by
  intro s o
  simp only [execSetWpm, State.ignores_setChan_other]
  by_cases hi : s.ignores c = true
  · simp [hi]
  · by_cases hw : wpm = 0x00#8 <;> simp [hi, hw]

theorem execMsgWrite_independent (c : Slot) (addr data : Byte) : IndependentOfOther c (execMsgWrite c addr data) := by
  intro s o
  simp only [execMsgWrite, State.setChan_params, State.ignores_setChan_other, State.chan_setChan_other']
  by_cases hwf : Instr.wf s.params (.msgWrite c addr data) = false
  · simp [hwf]
  · by_cases hi : s.ignores c = true
    · simp [hwf, hi]
    · by_cases hs : (s.chan c).sending = true <;> simp [hwf, hi, hs]

theorem execSubmit_independent (c : Slot) (n : BitVec 9) : IndependentOfOther c (execSubmit c n) := by
  intro s o
  simp only [execSubmit, State.setChan_params, State.ignores_setChan_other, State.chan_setChan_other']
  by_cases hwf : Instr.wf s.params (.submit c n) = false
  · simp [hwf]
  · by_cases hi : s.ignores c = true
    · simp [hwf, hi]
    · by_cases hs : (s.chan c).sending = true <;> simp [hwf, hi, hs]

theorem awaitRun_independent (c : Slot) (now : Word) (left : Nat) : IndependentOfOther c (awaitRun c now left) := by
  induction left with
  | zero => intro s o; simp [awaitRun]
  | succ left ih =>
    intro s o
    simp only [awaitRun, State.nextByte_setChan_other, State.mapChan_setChan_other, State.loadChar_setChan_other]
    cases s.nextByte c with
    | none => simp
    | some b =>
      by_cases ht : b = tilde
      · simp only [if_pos ht]; exact ih _ o
      · by_cases hb : b = backtick
        · simp only [if_neg ht, if_pos hb]; exact ih _ o
        · simp only [if_neg ht, if_neg hb, mapNext_next]

theorem awaitChars_independent (c : Slot) (now : Word) : IndependentOfOther c (awaitChars c now) := by
  intro s o
  simp only [awaitChars, State.chan_setChan_other']
  exact awaitRun_independent c now _ s o

theorem execTick_independent (c : Slot) : IndependentOfOther c (execTick c) := by
  intro s o
  simp only [execTick, State.ignores_setChan_other, State.chan_setChan_other', State.now_eq, State.setChan_nowMs,
    State.mapChan_setChan_other, State.elementOn_setChan_other, State.gapPending_setChan_other]
  by_cases hi : s.ignores c = true
  · simp [hi]
  by_cases hs : (s.chan c).sending = false
  · simp [hi, hs]
  simp only [hi, hs]
  cases (s.chan c).phase with
  | await => exact awaitChars_independent c _ s o
  | elemOn => by_cases he : expired s.nowMs (s.chan c).deadline = true <;> simp [he]
  | gapPending => rfl
  | gapActive =>
    by_cases he : expired s.nowMs (s.chan c).deadline = false
    · simp [he]
    · by_cases hm : more (s.chan c).pattern (s.chan c).bitIndex = false
      · simpa [he, hm] using awaitChars_independent c _ _ o
      · simp [he, hm]

theorem execStop_independent (c : Slot) : IndependentOfOther c (execStop c) := by
  intro s o
  simp only [execStop, State.ignores_setChan_other, State.mapChan_setChan_other, State.drive_setChan_other,
    State.chan_setChan_other']
  by_cases hi : s.ignores c = true
  · simp [hi]
  · by_cases ha : (s.chan c).actOn = true <;> simp [hi, ha]

theorem execIsSending_independent (c : Slot) : IndependentOfOther c (execIsSending c) := by
  intro s o; simp [execIsSending_eq]

/-- Every addressed command, by its meaning; READ_STATUS is addressed to no channel. -/
theorem exec_independent {i : Instr} {c : Slot} (hc : slotOf i = some c) : IndependentOfOther c (exec i) := by
  cases i with
  | configure kind id wpm => exact execConfigure_independent hc id wpm
  | setWpm d wpm => cases hc; exact execSetWpm_independent c wpm
  | msgWrite d addr data => cases hc; exact execMsgWrite_independent c addr data
  | submit d len => cases hc; exact execSubmit_independent c len
  | tick d => cases hc; exact execTick_independent c
  | stop d => cases hc; exact execStop_independent c
  | isSending d => cases hc; exact execIsSending_independent c
  | readStatus => cases hc

/-- Settles O50: both directions of 20_memory.md R61 from the independence of every addressed command. -/
theorem channelsAreIndependent : Obligations.ChannelsAreIndependent := fun _ _ s hc =>
  ⟨fun _ ht => (exec_independent hc).chan_other ht, exec_independent hc s⟩

end Sys2Proof.Machine
end

/-! What the decoder answers for a word (30_encoding.md R78 to R81), and that only SUBMIT and TICK read the sampled time
(30_encoding.md R76, R78). -/

namespace Sys2Proof.Machine

/-! ## The decoder, word by word -/

theorem reservedClear_iff (w r : Word) : reservedClear w r = true ↔ w &&& r = 0#32 := by simp [reservedClear]

/-- A reserved bit of the format that OP names is 1 (30_encoding.md R81). -/
def ReservedBitSet (w : Word) : Prop :=
  let op := (opField w).toNat
  (op = 1 ∧ w &&& 0x0300FF00#32 ≠ 0#32) ∨ (op = 2 ∧ w &&& 0x07FFFF00#32 ≠ 0#32) ∨
  (op = 3 ∧ w &&& 0x07FF0000#32 ≠ 0#32) ∨ (op = 4 ∧ w &&& 0x07FFFE00#32 ≠ 0#32) ∨
  ((op = 5 ∨ op = 6 ∨ op = 7) ∧ w &&& 0x07FFFFFF#32 ≠ 0#32) ∨ (op = 8 ∧ w &&& 0x0FFFFFFF#32 ≠ 0#32)

/-- Every answer the decoder can give on a word, with what it has tested then; `decode_answers` ties it to `decode`. -/
inductive Answers (p : Params) (w : Word) : Except IllegalWord Instr → Prop where
  | configure (hop : (opField w).toNat = 1) (hr : w &&& 0x0300FF00#32 = 0#32) :
    Answers p w (.ok (.configure (kindField w) (idField w) (wpmField w)))
  | setWpm (hop : (opField w).toNat = 2) (hr : w &&& 0x07FFFF00#32 = 0#32) :
    Answers p w (.ok (.setWpm (chField w) (wpmField w)))
  | msgWrite (hop : (opField w).toNat = 3) (hr : w &&& 0x07FF0000#32 = 0#32) (ha : (addrField w).toNat < p.msgDepth) :
    Answers p w (.ok (.msgWrite (chField w) (addrField w) (dataField w)))
  | submit (hop : (opField w).toNat = 4) (hr : w &&& 0x07FFFE00#32 = 0#32) (hl : (lenField w).toNat ≤ p.msgDepth) :
    Answers p w (.ok (.submit (chField w) (lenField w)))
  | tick (hop : (opField w).toNat = 5) (hr : w &&& 0x07FFFFFF#32 = 0#32) : Answers p w (.ok (.tick (chField w)))
  | stop (hop : (opField w).toNat = 6) (hr : w &&& 0x07FFFFFF#32 = 0#32) : Answers p w (.ok (.stop (chField w)))
  | isSending (hop : (opField w).toNat = 7) (hr : w &&& 0x07FFFFFF#32 = 0#32) :
    Answers p w (.ok (.isSending (chField w)))
  | readStatus (hop : (opField w).toNat = 8) (hr : w &&& 0x0FFFFFFF#32 = 0#32) : Answers p w (.ok .readStatus)
  | opcode (hop : (opField w).toNat = 0 ∨ 9 ≤ (opField w).toNat) : Answers p w (.error .opcode)
  | reservedBit (hr : ReservedBitSet w) : Answers p w (.error .reservedBit)
  | addrOutOfRange (hop : (opField w).toNat = 3) (ha : p.msgDepth ≤ (addrField w).toNat) :
    Answers p w (.error .addrOutOfRange)
  | lenOutOfRange (hop : (opField w).toNat = 4) (hl : p.msgDepth < (lenField w).toNat) :
    Answers p w (.error .lenOutOfRange)

/-- The test of the reserved bits, which stands first in each row of the decoder: what it guards has only to be examined on
words that pass it. -/
theorem answers_of_reservedClear {p : Params} {w r : Word} {a : Except IllegalWord Instr}
    (hset : w &&& r ≠ 0#32 → ReservedBitSet w) (hclear : w &&& r = 0#32 → Answers p w a) :
    Answers p w (if reservedClear w r then a else .error .reservedBit) := by
  split
  · next h => exact hclear ((reservedClear_iff w r).1 h)
  · next h => exact .reservedBit (hset (mt (reservedClear_iff w r).2 h))

/-- All that the decoder can do. -/
theorem decode_answers (p : Params) (w : Word) : Answers p w (decode p w) := by
  unfold decode decodeCh
  split
  · next hop => exact answers_of_reservedClear (fun h => by simp [ReservedBitSet, hop, h]) (.configure hop)
  · next hop => exact answers_of_reservedClear (fun h => by simp [ReservedBitSet, hop, h]) (.setWpm hop)
  · next hop =>
    refine answers_of_reservedClear (fun h => by simp [ReservedBitSet, hop, h]) fun hr => ?_
    split
    · next ha => exact .msgWrite hop hr ha
    · next ha => exact .addrOutOfRange hop (not_lt.1 ha)
  · next hop =>
    refine answers_of_reservedClear (fun h => by simp [ReservedBitSet, hop, h]) fun hr => ?_
    split
    · next hl => exact .submit hop hr hl
    · next hl => exact .lenOutOfRange hop (not_le.1 hl)
  · next hop => exact answers_of_reservedClear (fun h => by simp [ReservedBitSet, hop, h]) (.tick hop)
  · next hop => exact answers_of_reservedClear (fun h => by simp [ReservedBitSet, hop, h]) (.stop hop)
  · next hop => exact answers_of_reservedClear (fun h => by simp [ReservedBitSet, hop, h]) (.isSending hop)
  · next hop => exact answers_of_reservedClear (fun h => by simp [ReservedBitSet, hop, h]) (.readStatus hop)
  · exact .opcode (by simp only [imp_false] at *; omega)

/-- Of the parameters the decoder reads MSG_DEPTH alone (30_encoding.md R80). -/
theorem decode_congr_msgDepth {p q : Params} (h : q.msgDepth = p.msgDepth) (w : Word) : decode q w = decode p w := by
  unfold decode; rw [h]

/-- The Illegal words in the terms of the decoder's fields (30_encoding.md R80): an answer that rejects the word carries one of
the reasons, and an answer that is a command carries the tests that exclude them all. -/
theorem decode_eq_error_iff (p : Params) (w : Word) :
    (∃ e, decode p w = .error e) ↔
      (opField w).toNat = 0 ∨ 9 ≤ (opField w).toNat ∨ ReservedBitSet w ∨
        ((opField w).toNat = 3 ∧ p.msgDepth ≤ (addrField w).toNat) ∨
        ((opField w).toNat = 4 ∧ p.msgDepth < (lenField w).toNat) := by
  have ha := decode_answers p w
  generalize decode p w = a at ha ⊢
  cases ha with
  | opcode hop => exact iff_of_true ⟨_, rfl⟩ (hop.imp_right .inl)
  | reservedBit hr => simp [hr]
  | addrOutOfRange hop ha => simp [hop, ha]
  | lenOutOfRange hop hl => simp [hop, hl]
  | _ => simp [ReservedBitSet, *]

/-- Settles O4: the reasons for which the decoder rejects a word, with its fields written out. -/
theorem illegalWordsAreExactlyThese : Obligations.IllegalWordsAreExactlyThese := by
  refine fun p w => ⟨fun q hq => decode_congr_msgDepth hq w, ?_⟩
  have h := decode_eq_error_iff p w
  simp only [ReservedBitSet, or_assoc] at h
  rw [h]
  rfl

/-! ## The sampled time commutes with the operations on states -/

/-- The state with another value sampled on the `now_ms` port. -/
def State.withNow (s : State) (now : Word) : State := { s with nowMs := now }

section
variable (s : State) (now : Word)

@[simp] theorem State.withNow_halted : (s.withNow now).halted = s.halted := rfl
@[simp] theorem State.withNow_params : (s.withNow now).params = s.params := rfl
@[simp] theorem State.withNow_statusWord : (s.withNow now).statusWord = s.statusWord := rfl
@[simp] theorem State.withNow_chan (c : Slot) : (s.withNow now).chan c = s.chan c := by cases c <;> rfl
@[simp] theorem State.withNow_ignores (c : Slot) : (s.withNow now).ignores c = s.ignores c := by simp [State.ignores]

@[simp] theorem State.raiseFatal_withNow (k : Cause) : (s.withNow now).raiseFatal k = (s.raiseFatal k).withNow now := rfl
@[simp] theorem State.respond_withNow (v : Word) : (s.withNow now).respond v = (s.respond v).withNow now := rfl
@[simp] theorem State.addEvts_withNow (l : List Event) : (s.withNow now).addEvts l = (s.addEvts l).withNow now := rfl
@[simp] theorem State.raiseIllegal_withNow : (s.withNow now).raiseIllegal = s.raiseIllegal.withNow now := by
  rw [State.raiseIllegal_eq, State.raiseIllegal_eq]; rfl
@[simp] theorem State.mapChan_withNow (c : Slot) (f : Channel → Channel) :
    (s.withNow now).mapChan c f = (s.mapChan c f).withNow now := by cases c <;> rfl
@[simp] theorem State.memWrite_withNow (c : Slot) (a : Nat) (v : Byte) :
    (s.withNow now).memWrite c a v = (s.memWrite c a v).withNow now := s.mapChan_withNow now c _
@[simp] theorem State.drive_withNow (c : Slot) (on : Bool) :
    (s.withNow now).drive c on = (s.drive c on).withNow now := by simp [State.drive_eq, State.setAct]

end

/-- A meaning that does the same at every sampled time. -/
def IndependentOfNow (run : State → Result) : Prop :=
  ∀ (s : State) (now : Word), run (s.withNow now) = mapNext (fun t => t.withNow now) (run s)

theorem execConfigure_independentOfNow (kind : BitVec 2) (id wpm : Byte) :
    IndependentOfNow (execConfigure kind id wpm) := by
  intro s now
  simp only [execConfigure, State.withNow_halted, State.withNow_chan]
  by_cases hh : s.halted = true
  · simp [hh]
  simp only [hh]
  cases slotOfKind kind with
  | none => simp
  | some c =>
    by_cases hw : wpm = 0x00#8
    · simp [hw]
    · by_cases hd : (s.chan c).configured = true <;> simp [hw, hd]

theorem execSetWpm_independentOfNow (c : Slot) (wpm : Byte) : IndependentOfNow (execSetWpm c wpm) := by
  intro s now
  simp only [execSetWpm, State.withNow_ignores]
  by_cases hi : s.ignores c = true
  · simp [hi]
  · by_cases hw : wpm = 0x00#8 <;> simp [hi, hw]

theorem execMsgWrite_independentOfNow (c : Slot) (addr data : Byte) : IndependentOfNow (execMsgWrite c addr data) := by
  intro s now
  simp only [execMsgWrite, State.withNow_params, State.withNow_ignores, State.withNow_chan]
  by_cases hwf : Instr.wf s.params (.msgWrite c addr data) = false
  · simp [hwf]
  · by_cases hi : s.ignores c = true
    · simp [hwf, hi]
    · by_cases hs : (s.chan c).sending = true <;> simp [hwf, hi, hs]

theorem execStop_independentOfNow (c : Slot) : IndependentOfNow (execStop c) := by
  intro s now
  simp only [execStop, State.withNow_ignores, State.mapChan_withNow, State.drive_withNow, State.withNow_chan]
  by_cases hi : s.ignores c = true
  · simp [hi]
  · by_cases ha : (s.chan c).actOn = true <;> simp [hi, ha]

theorem execIsSending_independentOfNow (c : Slot) : IndependentOfNow (execIsSending c) := by
  intro s now; simp [execIsSending_eq]

theorem execReadStatus_independentOfNow : IndependentOfNow execReadStatus := by
  intro s now; simp [execReadStatus_eq]

/-- Every command but SUBMIT and TICK, by its meaning (30_encoding.md R76). -/
theorem exec_independentOfNow {i : Instr} (hTick : ∀ c, i ≠ .tick c) (hSubmit : ∀ c n, i ≠ .submit c n) :
    IndependentOfNow (exec i) := by
  cases i with
  | configure kind id wpm => exact execConfigure_independentOfNow kind id wpm
  | setWpm c wpm => exact execSetWpm_independentOfNow c wpm
  | msgWrite c addr data => exact execMsgWrite_independentOfNow c addr data
  | submit c n => exact absurd rfl (hSubmit c n)
  | tick c => exact absurd rfl (hTick c)
  | stop c => exact execStop_independentOfNow c
  | isSending c => exact execIsSending_independentOfNow c
  | readStatus => exact execReadStatus_independentOfNow

/-- Settles O5: each command the decoder answers with holds its row's fields, and six of the eight meanings are independent of
the sampled time. -/
theorem operandsAreTakenInPlace : Obligations.OperandsAreTakenInPlace := by
  refine ⟨fun p w i hi => ?_, fun i s now hTick hSubmit => exec_independentOfNow hTick hSubmit s now⟩
  have ha := decode_answers p w
  rw [hi] at ha
  cases ha with
  | configure => exact ⟨rfl, rfl, rfl⟩
  | setWpm => exact ⟨rfl, rfl⟩
  | msgWrite => exact ⟨rfl, rfl, rfl⟩
  | submit => exact ⟨rfl, rfl⟩
  | tick => rfl
  | stop => rfl
  | isSending => rfl
  | readStatus => trivial

/-! ## The worked encodings -/

/-- CONFIGURE of an unrecognized kind, whatever its other operands are (43_channel_adapter.md R190, 60_exceptions.md R228). -/
theorem execConfigure_badKind {kind : BitVec 2} {s : State} (hh : s.halted = false) (hk : slotOfKind kind = none)
    (id wpm : Byte) : execConfigure kind id wpm s = .next (s.raiseFatal .badKind) := by
  simp [execConfigure, hh, hk]

/-- Settles O1: the rows of the 30_encoding.md R86 table are evaluated one by one; the CONFIGURE of kind 2 is a case of
`execConfigure_badKind`. -/
theorem workedEncodingsBothWays : Obligations.WorkedEncodingsBothWays := by
  refine ⟨fun x hx => ?_, rfl, rfl, fun s hh => execConfigure_badKind (kind := 2#2) hh rfl 0#8 15#8⟩
  fin_cases hx <;> exact ⟨rfl, rfl⟩

end Sys2Proof.Machine

/-! Durations, the expiry test on the unbounded time line, and the deadlines that a TICK finds and sets (41_unit_timing.md R123
to R133). -/

namespace Sys2Proof.Machine

/-! ## Durations -/

/-- A rate in the domain of DUR, as the divisor that the duration is taken by. -/
theorem wpm_pos_of_ne {w : Byte} (hw : w ≠ 0x00#8) : 0 < w.toNat := by
  rw [Nat.pos_iff_ne_zero]; exact fun h => hw (BitVec.eq_of_toNat_eq h)

/-- DUR inside its domain (41_unit_timing.md R123). -/
theorem dur_eq (k : Nat) {w : Byte} (hw : w ≠ 0x00#8) : dur k w = (k * 1200 + w.toNat - 1) / w.toNat := if_neg hw

/-- DUR is a rounded-up division, so the library's Galois connection compares it without any rounding. -/
theorem dur_le_iff (k n : Nat) {w : Byte} (hw : w ≠ 0x00#8) : dur k w ≤ n ↔ k * 1200 ≤ n * w.toNat := by
  rw [dur_eq k hw, ← Nat.ceilDiv_eq_add_pred_div, ceilDiv_le_iff_le_mul (wpm_pos_of_ne hw), Nat.mul_comm n]

/-- The unit counts that a deadline is made of (41_unit_timing.md R123). -/
abbrev IsUnitCount (k : Nat) : Prop := k = 1 ∨ k = 3 ∨ k = 7

/-- One unit at the fastest rate is the shortest duration. -/
theorem five_le_dur {k : Nat} {w : Byte} (hk : IsUnitCount k) (hw : w ≠ 0x00#8) : 5 ≤ dur k w := by
  have short : ¬ dur k w ≤ 4 := by
    rw [dur_le_iff k 4 hw]
    have := w.isLt
    omega
  omega

/-- Seven units at the slowest rate are the longest duration. -/
theorem dur_le_8400 {k : Nat} {w : Byte} (hk : IsUnitCount k) (hw : w ≠ 0x00#8) : dur k w ≤ 8400 := by
  rw [dur_le_iff k 8400 hw]
  have := wpm_pos_of_ne hw
  omega

/-- Settles O40: the Galois connection of the ceiling, and the two bounds read off it. -/
theorem durationIsTheExactCeiling : Obligations.DurationIsTheExactCeiling := by
  intro k w hk hw
  have hmax := dur_le_8400 hk hw
  exact ⟨dur_eq k hw, fun n => dur_le_iff k n hw, five_le_dur hk hw, hmax, by omega⟩

/-- Settles O41: the rows of the 41_unit_timing.md R133 table are evaluated one by one. -/
theorem durationsAtSampleRates : Obligations.DurationsAtSampleRates := by
  intro x hx
  fin_cases hx <;> exact ⟨rfl, rfl, rfl⟩

/-! ## The expiry test -/

/-- The tie: a phase is over at its deadline (41_unit_timing.md R131). -/
theorem expired_self (dl : Word) : expired dl dl = true := by simp [expired_iff]

/-- The test reads one bit (41_unit_timing.md R125). -/
theorem expired_iff_bit (now dl : Word) : expired now dl = true ↔ (now - dl).getLsbD 31 = false := by
  simp [expired, BitVec.msb_eq_getLsbD_last]

/-- At or after the deadline on the time line, the test reads how late it is, up to whole turns of the clock. -/
theorem expired_of_le {t d : Nat} (h : d ≤ t) :
    expired (BitVec.ofNat 32 t) (BitVec.ofNat 32 d) = true ↔ (t - d) % 2 ^ 32 < 2 ^ 31 := by
  rw [expired_iff, BitVec.toNat_sub, BitVec.toNat_ofNat, BitVec.toNat_ofNat]
  omega

/-- Less than half a turn before the deadline the difference is read as negative. -/
theorem not_expired_of_lt {t d : Nat} (h : t < d) (hd : d - t < 2 ^ 31) :
    expired (BitVec.ofNat 32 t) (BitVec.ofNat 32 d) = false := by
  rw [← Bool.not_eq_true, expired_iff, BitVec.toNat_sub, BitVec.toNat_ofNat, BitVec.toNat_ofNat]
  omega

/-- Settles O42: late times by `expired_of_le` in both halves of a turn, early times by `not_expired_of_lt`. -/
theorem expiryTestFollowsTheTimeLine : Obligations.ExpiryTestFollowsTheTimeLine := by
  refine ⟨expired_iff_bit, fun t d => ⟨fun hle hlate => ?_, fun hlt hearly => ?_, fun hle hhalf hturn => ?_⟩⟩
  · exact (expired_of_le hle).2 (by omega)
  · exact not_expired_of_lt hlt (by omega)
  · rw [← Bool.not_eq_true, expired_of_le hle]; omega

/-! ## The deadlines that element_on and gap_pending set -/

section
variable (ch : Channel) (now : Word)

theorem Channel.isUnitCount_toneUnits : IsUnitCount ch.toneUnits := by
  unfold Channel.toneUnits; split <;> decide

theorem Channel.isUnitCount_gapUnits : IsUnitCount ch.gapUnits := by
  unfold Channel.gapUnits; split <;> decide

@[simp] theorem Channel.withElement_phase : (ch.withElement now).phase = .elemOn := by
  unfold Channel.withElement; split <;> rfl

@[simp] theorem Channel.withGap_phase : (ch.withGap now).phase = .gapActive := rfl

/-- The word-space hold is the one element that is no tone (42_automaton.md R163). -/
theorem Channel.withElement_deadline :
    (ch.withElement now).deadline = deadlineAt (if ch.pattern = wordSpace then 7 else ch.toneUnits) ch.wpm now := by
  unfold Channel.withElement; split <;> rfl

theorem Channel.withGap_deadline :
    (ch.withGap now).deadline =
      deadlineAt ({ ch with bitIndex := ch.bitIndex + 1#3 } : Channel).gapUnits ch.wpm now := rfl

end

/-- The word space has no elements, so a pattern with elements left is none (40_code_rom.md R102). -/
theorem ne_wordSpace_of_more {p : Byte} {i : BitVec 3} (h : more p i = true) : p ≠ wordSpace := by
  rintro rfl
  have hlt : 1 < 1 >>> i.toNat := of_decide_eq_true h
  exact absurd (Nat.shiftRight_le 1 i.toNat) (not_le.2 hlt)

/-! ## TICK on a running channel, by its phase (42_automaton.md R160) -/

section
variable {c : Slot} {s : State}

/-- Before its deadline a timed phase goes on. -/
theorem execTick_early (hr : s.Running c) (hp : (s.chan c).phase = .elemOn ∨ (s.chan c).phase = .gapActive)
    (he : expired s.nowMs (s.chan c).deadline = false) : execTick c s = .next s := by
  rw [execTick_eq hr.1 hr.2]
  rcases hp with hp | hp <;> simp [hp, he]

/-- The end of an element. -/
theorem execTick_elementOver (hr : s.Running c) (hp : (s.chan c).phase = .elemOn)
    (he : expired s.nowMs (s.chan c).deadline = true) : execTick c s = .next (s.gapPending c s.nowMs) := by
  rw [execTick_eq hr.1 hr.2]; simp [hp, he]

/-- The end of a gap inside a character. -/
theorem execTick_gapOver (hr : s.Running c) (hp : (s.chan c).phase = .gapActive)
    (he : expired s.nowMs (s.chan c).deadline = true) (hm : more (s.chan c).pattern (s.chan c).bitIndex = true) :
    execTick c s = .next (s.elementOn c s.nowMs) := by
  rw [execTick_eq hr.1 hr.2]; simp [hp, he, hm]

/-- The end of a character's last gap. -/
theorem execTick_lastGapOver (hr : s.Running c) (hp : (s.chan c).phase = .gapActive)
    (he : expired s.nowMs (s.chan c).deadline = true) (hm : more (s.chan c).pattern (s.chan c).bitIndex = false) :
    execTick c s = awaitChars c s.nowMs (s.mapChan c Channel.finishChar) := by
  rw [execTick_eq hr.1 hr.2]; simp [hp, he, hm]

/-- The gap after an element (42_automaton.md R164, R168). -/
theorem execTick_elementOver_deadline (hr : s.Running c) (hp : (s.chan c).phase = .elemOn)
    (he : expired s.nowMs (s.chan c).deadline = true) :
    ∃ u, execTick c s = .next u ∧
      (u.chan c).deadline = deadlineAt
        (if more (s.chan c).pattern ((s.chan c).bitIndex + 1#3) = true ∨ (s.chan c).digraph = true then 1 else 3)
        (s.chan c).wpm s.nowMs := by
  refine ⟨_, execTick_elementOver hr hp he, ?_⟩
  simp [Channel.withGap_deadline, Channel.gapUnits]

/-- The element after a gap (42_automaton.md R163): with elements left the pattern is a tone's. -/
theorem execTick_gapOver_deadline (hr : s.Running c) (hp : (s.chan c).phase = .gapActive)
    (he : expired s.nowMs (s.chan c).deadline = true) (hm : more (s.chan c).pattern (s.chan c).bitIndex = true) :
    ∃ u, execTick c s = .next u ∧
      (u.chan c).deadline = deadlineAt (s.chan c).toneUnits (s.chan c).wpm s.nowMs := by
  refine ⟨_, execTick_gapOver hr hp he hm, ?_⟩
  simp [Channel.withElement_deadline, ne_wordSpace_of_more hm]

/-- AWAIT sets no deadline or the one of an element, at the channel's rate. -/
theorem awaitChars_deadline {now : Word} {t : State} (h : awaitChars c now s = .next t) :
    (t.chan c).deadline = (s.chan c).deadline ∨
      ∃ k, IsUnitCount k ∧ (t.chan c).deadline = deadlineAt k (s.chan c).wpm now := by
  obtain ⟨-, -, -, -, -, -, -, -, ⟨-, -, -, hkept⟩ | ⟨-, -, hset, -⟩⟩ := awaitChars_next h
  · exact .inl hkept
  · exact .inr hset

/-- All that a TICK can do to the deadline: the one it finds stays, or one of 1, 3 or 7 units is set at the rate it finds
(41_unit_timing.md R126). -/
theorem execTick_deadline {t : State} (h : execTick c s = .next t) :
    (t.chan c).deadline = (s.chan c).deadline ∨
      ∃ k, IsUnitCount k ∧ (t.chan c).deadline = deadlineAt k (s.chan c).wpm s.nowMs := by
  rcases execTick_cases h with rfl | ⟨-, -, ⟨-, hw⟩ | ⟨-, -, rfl⟩ | ⟨-, -, -, hw⟩ | ⟨-, -, hm, rfl⟩⟩
  · exact .inl rfl
  · exact awaitChars_deadline hw
  · rw [State.chan_gapPending, Channel.withGap_deadline]
    exact .inr ⟨_, Channel.isUnitCount_gapUnits _, rfl⟩
  · simpa using awaitChars_deadline hw
  · rw [State.chan_elementOn, Channel.withElement_deadline]
    refine .inr ⟨_, ?_, rfl⟩
    split
    · decide
    · exact Channel.isUnitCount_toneUnits _

end

/-! ## A new rate (41_unit_timing.md R127, R130) -/

@[simp] theorem State.withNow_nowMs (s : State) (now : Word) : (s.withNow now).nowMs = now := rfl

/-- The state with another rate on channel c. -/
def State.withRate (s : State) (c : Slot) (wpm : Byte) : State := s.mapChan c fun ch => { ch with wpm := wpm }

@[simp] theorem State.chan_withRate (s : State) (c : Slot) (wpm : Byte) :
    (s.withRate c wpm).chan c = { s.chan c with wpm := wpm } := s.chan_mapChan c _

@[simp] theorem State.withRate_halted (s : State) (c : Slot) (wpm : Byte) : (s.withRate c wpm).halted = s.halted :=
  s.mapChan_halted c _

/-- Neither a new rate nor a later time ends a transmission. -/
theorem State.Running.withRate_withNow {c : Slot} {s : State} (hr : s.Running c) (wpm : Byte) (now : Word) :
    ((s.withRate c wpm).withNow now).Running c := by simpa [State.Running, State.Live] using hr

/-- SET_WPM with a legal rate on a channel that takes commands. -/
theorem execSetWpm_eq {c : Slot} {wpm : Byte} {s : State} (hl : s.Live c) (hw : wpm ≠ 0x00#8) :
    execSetWpm c wpm s = .next (s.withRate c wpm) := by
  simp [execSetWpm, hl.ignores, hw, State.withRate]

/-- Settles O18: after SET_WPM the channel is the old one but for the rate, so a TICK compares with the old deadline and
whatever it schedules is of the new rate; the four lemmas about a TICK's deadline say so of the state that it finds. -/
theorem newRateAppliesFromTheNextDeadline : Obligations.NewRateAppliesFromTheNextDeadline := by
  intro c wpm s hr hw ch
  refine ⟨s.withRate c wpm, execSetWpm_eq hr.1 hw, by simp [ch], fun now => ?_⟩
  have hrun := hr.withRate_withNow wpm now
  have early := execTick_early hrun
  have elementOver := execTick_elementOver_deadline hrun
  have gapOver := execTick_gapOver_deadline hrun
  have anyEnd := fun u => execTick_deadline (c := c) (s := (s.withRate c wpm).withNow now) (t := u)
  simp only [State.withNow_chan, State.chan_withRate, State.withNow_nowMs] at early elementOver gapOver anyEnd
  exact ⟨fun he hp => early hp he, fun he hp => elementOver hp he, fun he hp hm => gapOver hp he hm, anyEnd⟩

/-! ## A TICK at the deadline (41_unit_timing.md R131) -/

section
variable {c : Slot} {now : Word}

/-- AWAIT passes over addresses of the store answer a next state: no load falls outside it (20_memory.md R58). -/
theorem awaitRun_answers {n : Nat} {s : State} (hn : (s.chan c).charIndex.toNat + n ≤ s.params.msgDepth)
    (hd : s.params.msgDepth ≤ 256) : ∃ t, awaitRun c now n s = .next t := by
  induction n generalizing s with
  | zero => exact ⟨_, rfl⟩
  | succ n ih =>
    have hnext : ((s.chan c).charIndex + 1#9).toNat + n ≤ s.params.msgDepth := by
      rw [BitVec.toNat_add_of_lt (by simp; omega)]; simp; omega
    simp only [awaitRun, State.nextByte_eq (show (s.chan c).charIndex.toNat < s.params.msgDepth by omega)]
    split
    · exact ih (by simpa using hnext) (by simpa using hd)
    · split
      · exact ih (by simpa using hnext) (by simpa using hd)
      · exact ⟨_, rfl⟩

/-- AWAIT at a character of the message, or at its end, answers a next state. -/
theorem awaitChars_answers {s : State} (hchar : (s.chan c).charIndex.toNat ≤ (s.chan c).len.toNat)
    (hlen : (s.chan c).len.toNat ≤ s.params.msgDepth) (hd : s.params.msgDepth ≤ 256) :
    ∃ t, awaitChars c now s = .next t := by
  refine awaitRun_answers ?_ hd
  rw [BitVec.toNat_sub_of_le (BitVec.le_def.2 hchar)]
  omega

/-- AWAIT ends idle or in an element. -/
theorem awaitChars_phase {s t : State} (h : awaitChars c now s = .next t) :
    (t.chan c).phase = .await ∨ (t.chan c).phase = .elemOn := by
  obtain ⟨k, d, -, ⟨-, rfl⟩ | ⟨-, b, -, -, -, rfl⟩⟩ := awaitRun_cases h
  · exact .inl (by simp)
  · exact .inr (by simp)

end

/-- The gap of a sound state is over in the TICK at its deadline, with the next element or with AWAIT. -/
theorem execTick_leaves_gap {c : Slot} {s : State} (hi : s.Inv) (hr : s.Running c) (hp : (s.chan c).phase = .gapActive)
    (he : expired s.nowMs (s.chan c).deadline = true) :
    ∃ t, execTick c s = .next t ∧ (t.chan c).phase ≠ .gapActive := by
  by_cases hm : more (s.chan c).pattern (s.chan c).bitIndex = true
  · exact ⟨_, execTick_gapOver hr hp he hm, by simp⟩
  · rw [execTick_lastGapOver hr hp he (by simpa using hm)]
    obtain ⟨-, hdepth, -⟩ := hi.params
    obtain ⟨-, hchar⟩ := (hi.chan c).in_char (.inr hp)
    have hnext : ((s.chan c).charIndex + 1#9).toNat ≤ (s.chan c).len.toNat := by bv_omega
    obtain ⟨t, ht⟩ := awaitChars_answers (c := c) (now := s.nowMs) (s := s.mapChan c Channel.finishChar)
      (by simpa using hnext) (by simpa using (hi.chan c).len_le) (by simpa using hdepth)
    refine ⟨t, ht, ?_⟩
    rcases awaitChars_phase ht with h | h <;> simp [h]

/-- Settles O31: the tie `expired_self` makes the deadline itself late enough for `execTick_elementOver` and
`execTick_leaves_gap`. -/
theorem tickAtTheDeadlineCompletes : Obligations.TickAtTheDeadlineCompletes := by
  refine ⟨expired_self, fun c s hr hp hnow => ?_, fun c s hi hr hp hnow => ?_⟩
  · exact ⟨_, execTick_elementOver hr hp (hnow ▸ expired_self _), by simp⟩
  · exact execTick_leaves_gap hi hr hp (hnow ▸ expired_self _)

end Sys2Proof.Machine

/-! TICK's phases in full, the end of a message and the end of every transmission (42_automaton.md R160 to R169, R181, R182); the
case fold (R145) and the busy SUBMIT (R151). -/

namespace Sys2Proof.Machine

/-! ## The case fold and the busy SUBMIT -/

/-- The letters that the fold changes, as the numbers of their codes (42_automaton.md R145). -/
theorem foldCase_eq (d : Byte) :
    foldCase d = if 0x61 ≤ d.toNat ∧ d.toNat ≤ 0x7A then d - 0x20#8 else d := rfl

/-- Settles O19: a letter is above 0x20, so the subtraction does not borrow. -/
theorem caseFoldChangesOnlyLowerCase : Obligations.CaseFoldChangesOnlyLowerCase := by
  refine fun d => ⟨fun hletter => ?_, fun hother => ?_⟩
  · rw [foldCase_eq, if_pos hletter]
    exact BitVec.toNat_sub_of_le (BitVec.le_def.2 (le_trans (by decide) hletter.1))
  · rw [foldCase_eq, if_neg hother]

/-- A SUBMIT that finds the channel ignored or sending (42_automaton.md R151, 60_exceptions.md R228). -/
theorem execSubmit_busy {c : Slot} {n : BitVec 9} {s : State} (hn : n.toNat ≤ s.params.msgDepth)
    (hs : (s.chan c).sending = true) : execSubmit c n s = .next s := by
  simp [execSubmit, Instr.wf, hn, hs]

/-- Settles O22: of the three tests of SUBMIT the third stops it, whatever the second says. -/
theorem busySubmitIsANoOp : Obligations.BusySubmitIsANoOp := fun _ _ _ hn hs => execSubmit_busy hn hs

/-- A SUBMIT that is taken (42_automaton.md R150). -/
theorem execSubmit_eq {c : Slot} {n : BitVec 9} {s : State} (hl : s.Live c) (hs : (s.chan c).sending = false)
    (hn : n.toNat ≤ s.params.msgDepth) : execSubmit c n s = .next (s.mapChan c fun ch => ch.start n s.nowMs) := by
  simp [execSubmit, Instr.wf, hn, hl.ignores, hs]

/-! ## What an element and a loaded character are, case by case (42_automaton.md R163) -/

section
variable {ch : Channel} (now : Word)

theorem Channel.withElement_space (h : ch.pattern = wordSpace) :
    ch.withElement now = { ch with phase := .elemOn, deadline := deadlineAt 7 ch.wpm now } := if_pos h

theorem Channel.withElement_tone (h : ch.pattern ≠ wordSpace) :
    ch.withElement now =
      { ch with phase := .elemOn, deadline := deadlineAt ch.toneUnits ch.wpm now, actOn := true } := if_neg h

end

/-! ## The stores under TICK (20_memory.md R51) -/

/-- Loading a character keeps the stores. -/
theorem State.loadChar_sameMemory (s : State) (c : Slot) (b : Byte) (now : Word) : SameMemory s (s.loadChar c b now) :=
  (s.loadChar_sameOutside c b now).sameMemory (by simp [Channel.withPattern])

/-- Going idle keeps the stores. -/
theorem State.goIdle_sameMemory (s : State) (c : Slot) : SameMemory s (s.mapChan c Channel.goIdle) :=
  (SameOutside.mapChan c s _).sameMemory (by simp)

/-- Beginning an element keeps the stores. -/
theorem State.elementOn_sameMemory (s : State) (c : Slot) (now : Word) : SameMemory s (s.elementOn c now) :=
  (s.elementOn_sameOutside c now).sameMemory (by simp)

/-! ## AWAIT, one pass at a time (42_automaton.md R162) -/

section
variable {c : Slot} {s : State} {now : Word}

/-- TICK in AWAIT makes no test of time. -/
theorem execTick_await (hr : s.Running c) (hp : (s.chan c).phase = .await) :
    execTick c s = awaitChars c s.nowMs s := by
  rw [execTick_eq hr.1 hr.2, hp]

/-- A TICK that finds the channel running and brought to AWAIT runs the AWAIT passes. -/
theorem execTick_mapChan_await (hr : s.Running c) (f : Channel → Channel)
    (hconf : (f (s.chan c)).configured = (s.chan c).configured) (hsend : (f (s.chan c)).sending = (s.chan c).sending)
    (hphase : (f (s.chan c)).phase = .await) :
    execTick c (s.mapChan c f) = awaitChars c s.nowMs (s.mapChan c f) := by
  have hrun : (s.mapChan c f).Running c := by
    simpa [State.Running, State.Live, hconf, hsend] using hr
  rw [execTick_await hrun (by simpa using hphase), State.mapChan_nowMs]

/-- A later time ends no transmission. -/
theorem State.Running.withNow (hr : s.Running c) (now : Word) : (s.withNow now).Running c := by
  simpa [State.Running, State.Live] using hr

theorem awaitChars_end (h : (s.chan c).charIndex = (s.chan c).len) :
    awaitChars c now s = .next (s.mapChan c Channel.goIdle) := by
  rw [awaitChars_eq, if_pos h]

theorem awaitChars_tilde (hne : (s.chan c).charIndex ≠ (s.chan c).len)
    (hd : (s.chan c).charIndex.toNat < s.params.msgDepth)
    (hb : s.byteAt c (s.chan c).charIndex.toNat = tilde) :
    awaitChars c now s = awaitChars c now (s.mapChan c Channel.skipChar) := by
  rw [awaitChars_eq, if_neg hne, State.nextByte_eq hd]
  exact if_pos hb

theorem awaitChars_backtick (hne : (s.chan c).charIndex ≠ (s.chan c).len)
    (hd : (s.chan c).charIndex.toNat < s.params.msgDepth)
    (hb : s.byteAt c (s.chan c).charIndex.toNat = backtick) :
    awaitChars c now s = awaitChars c now (s.mapChan c Channel.toggleDigraph) := by
  rw [awaitChars_eq, if_neg hne, State.nextByte_eq hd, hb]
  rfl

theorem awaitChars_load (hne : (s.chan c).charIndex ≠ (s.chan c).len)
    (hd : (s.chan c).charIndex.toNat < s.params.msgDepth)
    (ht : s.byteAt c (s.chan c).charIndex.toNat ≠ tilde) (hb : s.byteAt c (s.chan c).charIndex.toNat ≠ backtick) :
    awaitChars c now s = .next (s.loadChar c (s.byteAt c (s.chan c).charIndex.toNat) now) := by
  rw [awaitChars_eq, if_neg hne, State.nextByte_eq hd]
  exact (if_neg ht).trans (if_neg hb)

/-- The two control characters go the same way but for digraph mode (40_code_rom.md R106). -/
theorem awaitChars_control (hne : (s.chan c).charIndex ≠ (s.chan c).len)
    (hd : (s.chan c).charIndex.toNat < s.params.msgDepth)
    (hb : isControl (s.byteAt c (s.chan c).charIndex.toNat) = true) :
    ∃ d, awaitChars c now s = awaitChars c now (s.mapChan c (Channel.consumed 1 d)) := by
  have hb : s.byteAt c (s.chan c).charIndex.toNat = tilde ∨ s.byteAt c (s.chan c).charIndex.toNat = backtick := by
    simpa [isControl] using hb
  rcases hb with hb | hb
  · exact ⟨(s.chan c).digraph, awaitChars_tilde hne hd hb⟩
  · exact ⟨!(s.chan c).digraph, awaitChars_backtick hne hd hb⟩

end

/-- Settles O29: the four passes of `awaitChars`; a loaded character begins as `Channel.withElement` says of its pattern. -/
theorem awaitReadsTheNextCharacter : Obligations.AwaitReadsTheNextCharacter := by
  intro c s hr hp ch b
  have htick : exec (.tick c) s = awaitChars c s.nowMs s := execTick_await hr hp
  refine ⟨fun hend => ?_, fun hne hd => ⟨fun hb => ?_, fun hb => ?_, fun ht hb => ?_⟩⟩
  · refine ⟨_, htick.trans (awaitChars_end hend), State.chan_mapChan _ _ _, SameOutside.mapChan _ _ _, ?_,
      s.goIdle_sameMemory c⟩
    simp [Silent]
  · rw [htick, awaitChars_tilde hne hd hb]
    exact (execTick_mapChan_await hr Channel.skipChar rfl rfl hp).symm
  · rw [htick, awaitChars_backtick hne hd hb]
    exact (execTick_mapChan_await hr Channel.toggleDigraph rfl rfl hp).symm
  · refine ⟨_, htick.trans (awaitChars_load hne hd ht hb), fun hspace => ⟨?_, ?_⟩, fun htone => ⟨?_, ?_⟩,
      State.loadChar_rsp _ _ _ _, State.loadChar_sameOutside _ _ _ _, State.loadChar_sameMemory _ _ _ _⟩
    · rw [State.chan_loadChar]; exact Channel.withElement_space _ hspace
    · rw [State.loadChar_evts, if_pos (show _ = wordSpace from hspace), List.append_nil]
    · rw [State.chan_loadChar]; exact Channel.withElement_tone _ htone
    · rw [State.loadChar_evts, if_neg (show _ ≠ wordSpace from htone)]

/-- Settles O28: the three outcomes of a TICK in the gap; with elements left the pattern is a tone's. -/
theorem tickEndsAGap : Obligations.TickEndsAGap := by
  intro c s hr hp ch
  refine ⟨fun he => execTick_early hr (.inr hp) he, fun he hm => ?_, fun he hm => ?_⟩
  · refine (execTick_lastGapOver hr hp he hm).trans ?_
    exact (execTick_mapChan_await hr Channel.finishChar rfl rfl rfl).symm
  · have htone : (s.chan c).pattern ≠ wordSpace := ne_wordSpace_of_more hm
    refine ⟨_, execTick_gapOver hr hp he hm, ?_, ?_, State.elementOn_rsp _ _ _, State.elementOn_sameOutside _ _ _,
      State.elementOn_sameMemory _ _ _⟩
    · rw [State.chan_elementOn]; exact Channel.withElement_tone _ htone
    · rw [State.elementOn_evts, if_neg htone]

/-! ## The end of a message -/

/-- Settles O36: the element's end leaves the channel in its gap; the gap's end is AWAIT at the end of the message. -/
theorem lastCharacterKeepsItsTrailingGap : Obligations.LastCharacterKeepsItsTrailingGap := by
  intro c s hr hp he hm hlast
  let t := s.gapPending c s.nowMs
  have hch : t.chan c = (s.chan c).withGap s.nowMs := State.chan_gapPending _ _ _
  have hlive : t.Live c := by
    refine ⟨(s.gapPending_sameOutside c s.nowMs).halted.trans hr.1.1, ?_⟩
    rw [hch]; exact hr.1.2
  have hsend : (t.chan c).sending = true := by rw [hch]; exact hr.2
  refine ⟨t, execTick_elementOver hr hp he, hsend, ?_, fun now => ?_⟩
  · rw [hch, Channel.withGap_deadline]
    simp [deadlineAt, Channel.gapUnits, hm]
  have hrun : (t.withNow now).Running c := State.Running.withNow ⟨hlive, hsend⟩ now
  have hgap : ((t.withNow now).chan c).phase = .gapActive := by simp [hch]
  rw [← t.withNow_chan now c]
  refine ⟨fun hearly => ?_, fun hlate => ?_⟩
  · exact execTick_early hrun (.inr hgap) hearly
  · have hmore : more ((t.withNow now).chan c).pattern ((t.withNow now).chan c).bitIndex = false := by
      simpa [hch, Channel.withGap] using hm
    have hend : (((t.withNow now).mapChan c Channel.finishChar).chan c).charIndex =
        (((t.withNow now).mapChan c Channel.finishChar).chan c).len := by
      simpa [hch, Channel.withGap] using hlast
    refine ⟨_, (execTick_lastGapOver hrun hgap hlate hmore).trans (awaitChars_end hend), ?_, ?_⟩
    · simp
    · simp [State.withNow]

section
variable {c : Slot} {now : Word}

/-- AWAIT consumes a run of control characters up to the end of the message, and the channel goes idle with no event. -/
theorem awaitChars_controls {s : State} (hchar : (s.chan c).charIndex.toNat ≤ (s.chan c).len.toNat)
    (hlen : (s.chan c).len.toNat ≤ s.params.msgDepth)
    (hctl : ∀ a, (s.chan c).charIndex.toNat ≤ a → a < (s.chan c).len.toNat → isControl (s.byteAt c a) = true) :
    ∃ t, awaitChars c now s = .next t ∧ (t.chan c).sending = false ∧ t.evts = s.evts := by
  induction hleft : (s.chan c).len.toNat - (s.chan c).charIndex.toNat generalizing s with
  | zero =>
    have hend : (s.chan c).charIndex = (s.chan c).len := BitVec.eq_of_toNat_eq (by omega)
    exact ⟨_, awaitChars_end hend, by simp, by simp⟩
  | succ n ih =>
    have hne : (s.chan c).charIndex ≠ (s.chan c).len := fun h => by rw [h] at hleft; omega
    have hd : (s.chan c).charIndex.toNat < s.params.msgDepth := by omega
    have hnext : ((s.chan c).charIndex + 1#9).toNat = (s.chan c).charIndex.toNat + 1 := by bv_omega
    obtain ⟨d, hpass⟩ := awaitChars_control (now := now) hne hd (hctl _ le_rfl (by omega))
    have hbyte : ∀ a, (s.mapChan c (Channel.consumed 1 d)).byteAt c a = s.byteAt c a :=
      State.byteAt_congr (by simp [Channel.consumed]) (by simp)
    have rest := ih (s := s.mapChan c (Channel.consumed 1 d))
    simp only [State.chan_mapChan, Channel.consumed, hnext, State.mapChan_params, State.mapChan_evts] at rest
    rw [hpass]
    exact rest (by omega) hlen (fun a ha hlt => (hbyte a).symm ▸ hctl a (by omega) hlt) (by omega)

end

/-- SUBMIT leaves the channel running in AWAIT at its first character (42_automaton.md R150). -/
theorem State.Live.running_start {c : Slot} {s : State} (hl : s.Live c) (n : BitVec 9) :
    (s.mapChan c fun ch => ch.start n s.nowMs).Running c := by
  simpa [State.Running, State.Live] using hl

/-- Settles O34: after SUBMIT the first TICK is AWAIT over the whole message, which is one control run. -/
theorem controlOnlyMessageEndsAtOnce : Obligations.ControlOnlyMessageEndsAtOnce := by
  intro c s n now hl hs hn hctl
  let t := s.mapChan c fun ch => ch.start n s.nowMs
  have hch : (t.withNow now).chan c = (s.chan c).start n s.nowMs := by simp [t]
  have hrun : (t.withNow now).Running c := (hl.running_start n).withNow now
  have hbyte : ∀ a, (t.withNow now).byteAt c a = s.byteAt c a :=
    State.byteAt_congr (by simp [t]) (by simp [t, State.withNow])
  obtain ⟨u, hu, hidle, hevts⟩ : ∃ u, awaitChars c now (t.withNow now) = .next u ∧ (u.chan c).sending = false ∧
      u.evts = (t.withNow now).evts := by
    apply awaitChars_controls
    · simp [hch]
    · simpa [hch, t] using hn
    · intro a _ ha
      rw [hch] at ha
      rw [hbyte]; exact hctl a ha
  refine ⟨t, u, execSubmit_eq hl hs hn, by simp [t], by simp [t], ?_, hidle, ?_⟩
  · exact (execTick_await hrun (by simp [hch])).trans hu
  · rw [hevts]; exact s.mapChan_evts c _

/-! ## What a transmission still has to do (42_automaton.md R181) -/

section
variable (ch : Channel) (now : Word)

@[simp] theorem Channel.withElement_configured : (ch.withElement now).configured = ch.configured := by
  unfold Channel.withElement; split <;> rfl
@[simp] theorem Channel.withElement_wpm : (ch.withElement now).wpm = ch.wpm := by
  unfold Channel.withElement; split <;> rfl
@[simp] theorem Channel.withElement_sending : (ch.withElement now).sending = ch.sending := by
  unfold Channel.withElement; split <;> rfl
@[simp] theorem Channel.withElement_len : (ch.withElement now).len = ch.len := by
  unfold Channel.withElement; split <;> rfl
@[simp] theorem Channel.withElement_charIndex : (ch.withElement now).charIndex = ch.charIndex := by
  unfold Channel.withElement; split <;> rfl
@[simp] theorem Channel.withElement_bitIndex : (ch.withElement now).bitIndex = ch.bitIndex := by
  unfold Channel.withElement; split <;> rfl

/-- Every element lasts 1, 3 or 7 units (42_automaton.md R163). -/
theorem Channel.withElement_deadline_isUnitCount :
    ∃ k, IsUnitCount k ∧ (ch.withElement now).deadline = deadlineAt k ch.wpm now := by
  refine ⟨_, ?_, ch.withElement_deadline now⟩
  split
  · decide
  · exact ch.isUnitCount_toneUnits

/-- Every gap lasts 1 or 3 units (42_automaton.md R164). -/
theorem Channel.withGap_deadline_isUnitCount :
    ∃ k, IsUnitCount k ∧ (ch.withGap now).deadline = deadlineAt k ch.wpm now :=
  ⟨_, Channel.isUnitCount_gapUnits _, ch.withGap_deadline now⟩

/-- The timed phases that may still come in the character in progress: an element and its gap for each index. -/
def Channel.phasesLeft (ch : Channel) : Nat :=
  match ch.phase with
  | .elemOn => 2 * (8 - ch.bitIndex.toNat)
  | .gapActive => 2 * (8 - ch.bitIndex.toNat) + 1
  | _ => 0

/-- A bound on the timed phases that may still come in the message; a fresh character has at most 16. -/
def Channel.work (ch : Channel) : Nat := 17 * (ch.len.toNat - ch.charIndex.toNat) + ch.phasesLeft

theorem Channel.phasesLeft_elemOn {ch : Channel} (hp : ch.phase = .elemOn) :
    ch.phasesLeft = 2 * (8 - ch.bitIndex.toNat) := by simp [Channel.phasesLeft, hp]

theorem Channel.phasesLeft_gapActive {ch : Channel} (hp : ch.phase = .gapActive) :
    ch.phasesLeft = 2 * (8 - ch.bitIndex.toNat) + 1 := by simp [Channel.phasesLeft, hp]

end

/-- Elements remain only below the last index (40_code_rom.md R102). -/
theorem toNat_lt_seven_of_more {p : Byte} {i : BitVec 3} (h : more p i = true) : i.toNat < 7 := by
  have hlt : 1 < p.toNat >>> i.toNat := of_decide_eq_true h
  by_contra hge
  have hi : i.toNat = 7 := by omega
  rw [hi, Nat.shiftRight_eq_div_pow] at hlt
  omega

/-- Channel c transmits a message of its store at a rate that durations exist for. -/
structure State.Transmits (s : State) (c : Slot) : Prop where
  running : s.Running c
  wpm_ne : (s.chan c).wpm ≠ 0x00#8
  depth_le : s.params.msgDepth ≤ 256
  len_le : (s.chan c).len.toNat ≤ s.params.msgDepth

/-- The transmission is inside a character, in a timed phase; an element in progress has an index that the next one exceeds. -/
structure State.InCharacter (s : State) (c : Slot) : Prop extends s.Transmits c where
  char_lt : (s.chan c).charIndex.toNat < (s.chan c).len.toNat
  timed : ((s.chan c).phase = .elemOn ∧ (s.chan c).bitIndex.toNat < 7) ∨ (s.chan c).phase = .gapActive

section
variable {c : Slot} {s t : State} {now : Word} {w : Nat}

/-- A transmission goes on through every change of its channel that keeps these four registers. -/
theorem State.Transmits.of_sameOutside (h : s.Transmits c) (ho : SameOutside c s t)
    (hconf : (t.chan c).configured = (s.chan c).configured) (hsend : (t.chan c).sending = (s.chan c).sending)
    (hwpm : (t.chan c).wpm = (s.chan c).wpm) (hlen : (t.chan c).len = (s.chan c).len) : t.Transmits c where
  running := by simpa [State.Running, State.Live, ho.halted, hconf, hsend] using h.running
  wpm_ne := hwpm ▸ h.wpm_ne
  depth_le := ho.params ▸ h.depth_le
  len_le := by rw [hlen, ho.params]; exact h.len_le

theorem State.Transmits.withNow (h : s.Transmits c) (now : Word) : (s.withNow now).Transmits c where
  running := h.running.withNow now
  wpm_ne := by simpa using h.wpm_ne
  depth_le := h.depth_le
  len_le := by simpa using h.len_le

theorem State.InCharacter.withNow (h : s.InCharacter c) (now : Word) : (s.withNow now).InCharacter c where
  toTransmits := h.toTransmits.withNow now
  char_lt := by simpa using h.char_lt
  timed := by simpa using h.timed

/-- What a TICK at `now` comes to when it is not early: the message is over, or less than w phases are left and the next one ends
at a deadline set at `now`. -/
def MovedOn (c : Slot) (now : Word) (w : Nat) (t : State) : Prop :=
  (t.chan c).sending = false ∨
    (t.InCharacter c ∧ (t.chan c).work < w ∧
      ∃ k, IsUnitCount k ∧ (t.chan c).deadline = deadlineAt k (t.chan c).wpm now)

/-- A loaded character is in its first element. -/
theorem State.Transmits.loadChar (h : s.Transmits c) (hchar : (s.chan c).charIndex.toNat < (s.chan c).len.toNat) (b : Byte)
    (hw : 17 * ((s.chan c).len.toNat - (s.chan c).charIndex.toNat) + 16 < w) :
    MovedOn c now w (s.loadChar c b now) := by
  refine .inr ⟨⟨h.of_sameOutside (s.loadChar_sameOutside c b now) ?_ ?_ ?_ ?_, ?_, .inl ⟨?_, ?_⟩⟩, ?_, ?_⟩
  all_goals simp only [State.chan_loadChar]
  · simp [Channel.withPattern]
  · simp [Channel.withPattern]
  · simp [Channel.withPattern]
  · simp [Channel.withPattern]
  · simpa [Channel.withPattern] using hchar
  · simp
  · simp [Channel.withPattern]
  · rw [Channel.work, Channel.phasesLeft_elemOn (by simp)]
    simpa [Channel.withPattern] using hw
  · simpa using Channel.withElement_deadline_isUnitCount ((s.chan c).withPattern _ now) now

/-- AWAIT goes on to a character at or after `charIndex`, or to the end of the message. -/
theorem awaitChars_movedOn (h : s.Transmits c) (hchar : (s.chan c).charIndex.toNat ≤ (s.chan c).len.toNat)
    (hw : 17 * ((s.chan c).len.toNat - (s.chan c).charIndex.toNat) + 16 < w) :
    ∃ t, awaitChars c now s = .next t ∧ MovedOn c now w t := by
  obtain ⟨t, ht⟩ := awaitChars_answers (now := now) hchar h.len_le h.depth_le
  refine ⟨t, ht, ?_⟩
  obtain ⟨k, d, -, ⟨-, rfl⟩ | ⟨hk, b, -, -, -, rfl⟩⟩ := awaitRun_cases ht
  · exact .inl (by simp)
  · rw [BitVec.toNat_sub_of_le (BitVec.le_def.2 hchar)] at hk
    have hindex : ((s.chan c).charIndex + BitVec.ofNat 9 k).toNat = (s.chan c).charIndex.toNat + k := by
      have := (s.chan c).len.isLt
      rw [BitVec.toNat_add, BitVec.toNat_ofNat]; omega
    have hcons : (s.mapChan c (Channel.consumed k d)).Transmits c :=
      h.of_sameOutside (SameOutside.mapChan _ _ _) (by simp [Channel.consumed]) (by simp [Channel.consumed])
        (by simp [Channel.consumed]) (by simp [Channel.consumed])
    refine hcons.loadChar ?_ b ?_ <;> rw [State.chan_mapChan] <;> simp only [Channel.consumed, hindex] <;> omega

/-- The TICK at the end of a phase completes it. -/
theorem execTick_late_movedOn (h : s.InCharacter c) (he : expired s.nowMs (s.chan c).deadline = true) :
    ∃ t, execTick c s = .next t ∧ MovedOn c s.nowMs (s.chan c).work t := by
  obtain ⟨hp, hbit⟩ | hp := h.timed
  · refine ⟨_, execTick_elementOver h.running hp he, .inr ⟨⟨?_, ?_, .inr (by simp)⟩, ?_, ?_⟩⟩
    · exact h.of_sameOutside (s.gapPending_sameOutside c s.nowMs) (by simp [Channel.withGap]) (by simp [Channel.withGap])
        (by simp [Channel.withGap]) (by simp [Channel.withGap])
    · simpa [Channel.withGap] using h.char_lt
    · rw [Channel.work, Channel.work, Channel.phasesLeft_elemOn hp, Channel.phasesLeft_gapActive (by simp)]
      have hnext : ((s.chan c).bitIndex + 1#3).toNat = (s.chan c).bitIndex.toNat + 1 := by bv_omega
      simp only [State.chan_gapPending, Channel.withGap, hnext]
      omega
    · rw [State.chan_gapPending]; exact Channel.withGap_deadline_isUnitCount _ _
  · cases hm : more (s.chan c).pattern (s.chan c).bitIndex with
    | true =>
      refine ⟨_, execTick_gapOver h.running hp he hm, .inr ⟨⟨?_, ?_, .inl ⟨by simp, ?_⟩⟩, ?_, ?_⟩⟩
      · exact h.of_sameOutside (s.elementOn_sameOutside c s.nowMs) (by simp) (by simp) (by simp) (by simp)
      · simpa using h.char_lt
      · simpa using toNat_lt_seven_of_more hm
      · rw [Channel.work, Channel.work, Channel.phasesLeft_gapActive hp, Channel.phasesLeft_elemOn (by simp)]
        simp
      · simpa using Channel.withElement_deadline_isUnitCount (s.chan c) s.nowMs
    | false =>
      rw [execTick_lastGapOver h.running hp he hm]
      have hchar := h.char_lt
      have hnext : ((s.chan c).charIndex + 1#9).toNat = (s.chan c).charIndex.toNat + 1 := by bv_omega
      have hdone : (s.mapChan c Channel.finishChar).Transmits c :=
        h.of_sameOutside (SameOutside.mapChan _ _ _) (by simp) (by simp) (by simp) (by simp)
      refine awaitChars_movedOn hdone ?_ ?_ <;>
        simp only [State.chan_mapChan, Channel.finishChar_charIndex, Channel.finishChar_len, hnext, Channel.work] <;> omega

end

/-! ## The time line (41_unit_timing.md R125, R132) -/

/-- A deadline of k units on the unbounded time line. -/
theorem deadlineAt_ofNat (k : Nat) (w : Byte) (T : Nat) :
    deadlineAt k w (BitVec.ofNat 32 T) = BitVec.ofNat 32 (T + dur k w) := by
  rw [deadlineAt, BitVec.ofNat_add]

/-- Channel c, last ticked at time T, is inside a character with its deadline ahead and at most one longest phase away; m is the
phases left, each counted as one more than the longest phase lasts, and the time to the deadline. Every further TICK lowers m. -/
def InFlight (c : Slot) (s : State) (T m : Nat) : Prop :=
  s.InCharacter c ∧ ∃ d, (s.chan c).deadline = BitVec.ofNat 32 d ∧ T < d ∧ d ≤ T + 8400 ∧
    m = 8401 * (s.chan c).work + (d - T)

section
variable {c : Slot}

/-- A deadline set at T lies ahead of T. -/
theorem MovedOn.inFlight {t : State} {T w : Nat} (h : MovedOn c (BitVec.ofNat 32 T) w t) :
    (t.chan c).sending = false ∨ ∃ m < 8401 * w, InFlight c t T m := by
  obtain hidle | ⟨hin, hwork, k, hk, hdeadline⟩ := h
  · exact .inl hidle
  · have hmin := five_le_dur hk hin.wpm_ne
    have hmax := dur_le_8400 hk hin.wpm_ne
    rw [deadlineAt_ofNat] at hdeadline
    exact .inr ⟨_, by omega, hin, T + dur k (t.chan c).wpm, hdeadline, by omega, by omega, rfl⟩

/-- A TICK less than half a turn of the clock after the last one waits for a deadline that is still ahead, or completes the
phase. -/
theorem InFlight.tick {s : State} {T T' m : Nat} (h : InFlight c s T m) (hlt : T < T') (hgap : T' - T ≤ 2 ^ 31 - 1) :
    ∃ t, execTick c (s.withNow (BitVec.ofNat 32 T')) = .next t ∧
      ((t.chan c).sending = false ∨ ∃ m' < m, InFlight c t T' m') := by
  obtain ⟨hin, d, hdeadline, hahead, hnear, rfl⟩ := h
  have hin' := hin.withNow (BitVec.ofNat 32 T')
  by_cases hd : T' < d
  · have hearly := not_expired_of_lt hd (by omega)
    refine ⟨_, execTick_early hin'.running (hin'.timed.imp_left And.left) (by simpa [hdeadline] using hearly), .inr ?_⟩
    exact ⟨8401 * (s.chan c).work + (d - T'), by omega, hin', d, by simpa using hdeadline, hd, by omega, by simp⟩
  · have hlate := (expired_of_le (not_lt.1 hd)).2 (by omega)
    obtain ⟨t, ht, hmoved⟩ := execTick_late_movedOn hin' (by simpa [hdeadline] using hlate)
    rw [State.withNow_chan, State.withNow_nowMs] at hmoved
    refine ⟨t, ht, hmoved.inFlight.imp_right fun ⟨m, hm, hflight⟩ => ⟨m, by omega, hflight⟩⟩

/-- One more TICK of a run. -/
theorem ticksAt_succ {τ : Nat → Nat} {s t : State} {k : Nat} (h : ticksAt c τ s k = .next t) :
    ticksAt c τ s (k + 1) = execTick c (t.withNow (BitVec.ofNat 32 (τ k))) := by
  rw [ticksAt, h]; rfl

/-- A channel in flight becomes idle: each TICK lowers m. -/
theorem InFlight.ends {τ : Nat → Nat} (hτ : ∀ k, τ k < τ (k + 1) ∧ τ (k + 1) - τ k ≤ 2 ^ 31 - 1) {s₀ : State} (m : Nat) :
    ∀ {k : Nat} {s : State}, ticksAt c τ s₀ (k + 1) = .next s → InFlight c s (τ k) m →
      ∃ k t, ticksAt c τ s₀ k = .next t ∧ (t.chan c).sending = false := by
  induction m using Nat.strong_induction_on with
  | _ m ih =>
    intro k s hs hflight
    obtain ⟨hlt, hgap⟩ := hτ k
    obtain ⟨t, ht, hidle | ⟨m', hm', hflight'⟩⟩ := hflight.tick hlt hgap
    · exact ⟨_, t, (ticksAt_succ hs).trans ht, hidle⟩
    · exact ih m' hm' ((ticksAt_succ hs).trans ht) hflight'

/-- What SUBMIT begins is a transmission, at its first character and in AWAIT. -/
theorem State.Inv.transmits_start {s : State} (hi : s.Inv) (hl : s.Live c) {n : BitVec 9} (hn : n.toNat ≤ s.params.msgDepth) :
    (s.mapChan c fun ch => ch.start n s.nowMs).Transmits c where
  running := hl.running_start n
  wpm_ne := by simpa using (hi.chan c).wpm_pos hl.2
  depth_le := by
    obtain ⟨-, hdepth, -⟩ := hi.params
    simpa using hdepth
  len_le := by simpa using hn

end

/-- Settles O39: the first TICK puts the channel in flight or ends the message (`awaitChars_movedOn`), and a channel in flight
becomes idle (`InFlight.ends`). -/
theorem transmissionEnds : Obligations.TransmissionEnds := by
  intro c s n τ hi hl hs hn hτ
  let s₀ := s.mapChan c fun ch => ch.start n s.nowMs
  have htrans : (s₀.withNow (BitVec.ofNat 32 (τ 0))).Transmits c := (hi.transmits_start hl hn).withNow _
  have hchan : (s₀.withNow (BitVec.ofNat 32 (τ 0))).chan c = (s.chan c).start n s.nowMs := by simp [s₀]
  refine ⟨s₀, execSubmit_eq hl hs hn, by simp [s₀], ?_⟩
  obtain ⟨t, hawait, hmoved⟩ :=
    awaitChars_movedOn (now := BitVec.ofNat 32 (τ 0)) htrans (by simp [hchan]) (Nat.lt_succ_self _)
  have ht : ticksAt c τ s₀ 1 = .next t :=
    (ticksAt_succ rfl).trans ((execTick_await htrans.running (by simp [hchan])).trans hawait)
  obtain hidle | ⟨m, -, hflight⟩ := hmoved.inFlight
  · exact ⟨1, t, ht, hidle⟩
  · exact InFlight.ends hτ m ht hflight

end Sys2Proof.Machine

/-! Errors (60_exceptions.md): the halted and the unconfigured gate, what a command and a step can do to `halted`, `cause` and
`ill`, and which command raises which fatal cause. -/

namespace Sys2Proof.Machine

/-! ## The gate (60_exceptions.md R223, R224) -/

theorem State.ignores_of_halted {s : State} (hh : s.halted = true) (c : Slot) : s.ignores c = true := by
  simp [State.ignores, hh]

theorem State.ignores_of_unconfigured {s : State} {c : Slot} (hc : (s.chan c).configured = false) : s.ignores c = true := by
  simp [State.ignores, hc]

theorem State.raiseIllegal_of_halted {s : State} (hh : s.halted = true) : s.raiseIllegal = s := by
  simp [State.raiseIllegal, hh]

/-- The channel whose gate a command passes first: that of every per-channel command but IS_SENDING (60_exceptions.md R228). -/
def gateOf : Instr → Option Slot
  | .setWpm c _ => some c
  | .msgWrite c _ _ => some c
  | .submit c _ => some c
  | .tick c => some c
  | .stop c => some c
  | .configure _ _ _ => none
  | .isSending _ => none
  | .readStatus => none

/-- A command that its gate stops has no effect; the value check of MSG_WRITE and SUBMIT comes before the gate
(60_exceptions.md R228, log entry 10). -/
theorem exec_ignored {i : Instr} {c : Slot} {s : State} (hc : gateOf i = some c) (hi : s.ignores c = true) :
    exec i s = .next (if i.wf s.params then s else s.raiseIllegal) := by
  cases i with
  | configure => cases hc
  | setWpm => cases hc; simp [exec, execSetWpm, hi, Instr.wf]
  | msgWrite d addr data =>
    cases hc
    by_cases hwf : Instr.wf s.params (.msgWrite c addr data) = true <;> simp [exec, execMsgWrite, hi, hwf]
  | submit d n =>
    cases hc
    by_cases hwf : Instr.wf s.params (.submit c n) = true <;> simp [exec, execSubmit, hi, hwf]
  | tick => cases hc; simp [exec, execTick, hi, Instr.wf]
  | stop => cases hc; simp [exec, execStop, hi, Instr.wf]
  | isSending => cases hc
  | readStatus => cases hc

theorem execConfigure_halted {s : State} (hh : s.halted = true) (kind : BitVec 2) (id wpm : Byte) :
    execConfigure kind id wpm s = .next s := by
  simp [execConfigure, hh]

/-- A halted block ignores every command but the two reads, encodable or not (60_exceptions.md R223). -/
theorem exec_halted {i : Instr} {s : State} (hh : s.halted = true) (hread : i ≠ .readStatus)
    (hbusy : ∀ c, i ≠ .isSending c) : exec i s = .next s := by
  have gated (c : Slot) (hc : gateOf i = some c) : exec i s = .next s := by
    rw [exec_ignored hc (State.ignores_of_halted hh c), State.raiseIllegal_of_halted hh, ite_self]
  cases i with
  | configure kind id wpm => exact execConfigure_halted hh kind id wpm
  | setWpm c _ => exact gated c rfl
  | msgWrite c _ _ => exact gated c rfl
  | submit c _ => exact gated c rfl
  | tick c => exact gated c rfl
  | stop c => exact gated c rfl
  | isSending c => exact absurd rfl (hbusy c)
  | readStatus => exact absurd rfl hread

/-- The response of IS_SENDING (42_automaton.md R180). -/
theorem flag_setWidth (b : Bool) : (flag b).setWidth 32 = if b then 1#32 else 0#32 := by cases b <;> rfl

theorem State.Inv.sending_of_unconfigured {s : State} (hinv : s.Inv) {c : Slot} (hc : (s.chan c).configured = false) :
    (s.chan c).sending = false := by
  have hbusy := (hinv.chan c).busy_configured
  cases hs : (s.chan c).sending with
  | false => rfl
  | true => rw [hbusy hs] at hc; cases hc

/-! ## Which command raises which fatal cause (60_exceptions.md R221, R228) -/

theorem slotOfKind_eq (kind : BitVec 2) :
    slotOfKind kind = if 2 ≤ kind.toNat then none else some (if kind = 1#2 then .cw else .toggle) := by
  revert kind; decide

/-- CONFIGURE on a running block: the fatal error it meets, or the binding (43_channel_adapter.md R190). -/
theorem execConfigure_eq {s : State} (hh : s.halted = false) (kind : BitVec 2) (id wpm : Byte) :
    execConfigure kind id wpm s =
      .next (if fatalCause s (.configure kind id wpm) = .none then
        s.mapChan (if kind = 1#2 then .cw else .toggle) fun ch => { ch with configured := true, id := id, wpm := wpm }
      else s.raiseFatal (fatalCause s (.configure kind id wpm))) := by
  simp only [execConfigure, fatalCause, slotOfKind_eq, hh]
  by_cases hk : 2 ≤ kind.toNat
  · simp [hk]
  by_cases hw : wpm = 0x00#8
  · simp [hk, hw]
  by_cases hd : (s.chan (if kind = 1#2 then .cw else .toggle)).configured = true <;> simp [hk, hw, hd]

/-- A command that meets a fatal condition on a running block raises it, and does nothing else (60_exceptions.md R222). -/
theorem exec_fatal {i : Instr} {s : State} (hh : s.halted = false) (hf : fatalCause s i ≠ .none) :
    exec i s = .next (s.raiseFatal (fatalCause s i)) := by
  cases i with
  | configure kind id wpm => exact (execConfigure_eq hh kind id wpm).trans (by rw [if_neg hf])
  | setWpm c wpm =>
    have hcond : (s.chan c).configured = true ∧ wpm = 0x00#8 := by simpa [fatalCause] using hf
    have hlive : s.Live c := ⟨hh, hcond.1⟩
    simp [exec, execSetWpm, fatalCause, hlive.ignores, hcond]
  | msgWrite => exact absurd rfl hf
  | submit => exact absurd rfl hf
  | tick => exact absurd rfl hf
  | stop => exact absurd rfl hf
  | isSending => exact absurd rfl hf
  | readStatus => exact absurd rfl hf

/-! ## What a command can do to the error registers -/

/-- The error registers `halted`, `cause` and `ill` hold what they held. -/
structure SameErrors (s t : State) : Prop where
  halted : t.halted = s.halted
  cause : t.cause = s.cause
  ill : t.ill = s.ill

theorem SameErrors.refl (s : State) : SameErrors s s := ⟨rfl, rfl, rfl⟩

theorem SameOutside.sameErrors {c : Slot} {s t : State} (h : SameOutside c s t) : SameErrors s t :=
  ⟨h.halted, h.cause, h.ill⟩

theorem State.mapChan_sameErrors (s : State) (c : Slot) (f : Channel → Channel) : SameErrors s (s.mapChan c f) :=
  (SameOutside.mapChan c s f).sameErrors

theorem State.respond_sameErrors (s : State) (v : Word) : SameErrors s (s.respond v) := ⟨rfl, rfl, rfl⟩

/-- All that a command can do to the error registers: nothing, or raise the fatal error it meets on a running block, or raise
Illegal where no word encodes it (60_exceptions.md R221, R226; log entry 10). -/
theorem exec_errors_cases {i : Instr} {s t : State} (h : exec i s = .next t) :
    SameErrors s t ∨ (s.halted = false ∧ fatalCause s i ≠ .none ∧ t = s.raiseFatal (fatalCause s i)) ∨
      (i.wf s.params = false ∧ t = s.raiseIllegal) := by
  by_cases hraise : s.halted = false ∧ fatalCause s i ≠ .none
  · obtain ⟨hh, hf⟩ := hraise
    exact .inr (.inl ⟨hh, hf, Host.Outcome.next.inj (h.symm.trans (exec_fatal hh hf))⟩)
  cases i with
  | configure kind id wpm =>
    refine .inl ?_
    cases hh : s.halted with
    | true =>
      cases h.symm.trans (execConfigure_halted hh kind id wpm)
      exact .refl _
    | false =>
      have hf : fatalCause s (.configure kind id wpm) = .none := not_not.1 fun hf => hraise ⟨hh, hf⟩
      cases h.symm.trans ((execConfigure_eq hh kind id wpm).trans (by rw [if_pos hf]))
      exact State.mapChan_sameErrors _ _ _
  | setWpm c wpm =>
    refine .inl ?_
    obtain rfl | ⟨hlive, rfl, -⟩ | ⟨-, -, rfl⟩ := execSetWpm_cases h
    · exact .refl _
    · exact absurd ⟨hlive.1, by simp [fatalCause, hlive.2]⟩ hraise
    · exact State.mapChan_sameErrors _ _ _
  | msgWrite c addr data =>
    obtain rfl | ⟨hwf, rfl⟩ | ⟨-, -, -, rfl⟩ := execMsgWrite_cases h
    · exact .inl (.refl _)
    · exact .inr (.inr ⟨hwf, rfl⟩)
    · exact .inl (State.mapChan_sameErrors _ _ _)
  | submit c n =>
    obtain rfl | ⟨hwf, rfl⟩ | ⟨-, -, -, rfl⟩ := execSubmit_cases h
    · exact .inl (.refl _)
    · exact .inr (.inr ⟨hwf, rfl⟩)
    · exact .inl (State.mapChan_sameErrors _ _ _)
  | tick c => exact .inl (execTick_sameOutside h).sameErrors
  | stop c =>
    refine .inl ?_
    obtain rfl | ⟨-, -, rfl⟩ | ⟨-, -, rfl⟩ := execStop_cases h
    · exact .refl _
    · exact State.mapChan_sameErrors _ _ _
    · exact ((SameOutside.mapChan _ _ _).trans (State.drive_sameOutside _ _ _)).sameErrors
  | isSending c => cases h; exact .inl (State.respond_sameErrors _ _)
  | readStatus => cases h; exact .inl (State.respond_sameErrors _ _)

/-- What can only be added to the error registers short of a reset: a halted block stays halted with its cause, and `ill` stays
set (60_exceptions.md R230). -/
structure ErrorsStick (s t : State) : Prop where
  halted : s.halted = true → t.halted = true ∧ t.cause = s.cause
  ill : s.ill = true → t.ill = true

theorem SameErrors.errorsStick {s t : State} (h : SameErrors s t) : ErrorsStick s t where
  halted hh := ⟨h.halted.trans hh, h.cause⟩
  ill hill := h.ill.trans hill

theorem State.raiseFatal_errorsStick {s : State} (hh : s.halted = false) (k : Cause) : ErrorsStick s (s.raiseFatal k) where
  halted hhalted := by rw [hh] at hhalted; cases hhalted
  ill hill := hill

theorem State.raiseIllegal_errorsStick (s : State) : ErrorsStick s s.raiseIllegal where
  halted hh := ⟨by simpa using hh, s.raiseIllegal_cause⟩
  ill hill := by simp [State.raiseIllegal_ill, hill]

/-- Sampling the time and dropping the last response and event touch no error register. -/
theorem ErrorsStick.of_accept {s t : State} {now : Word} {rest : List HostInput} (h : ErrorsStick (s.accept now rest) t) :
    ErrorsStick s t := ⟨h.halted, h.ill⟩

theorem exec_errorsStick {i : Instr} {s t : State} (h : exec i s = .next t) : ErrorsStick s t := by
  obtain hsame | ⟨hh, -, rfl⟩ | ⟨-, rfl⟩ := exec_errors_cases h
  · exact hsame.errorsStick
  · exact State.raiseFatal_errorsStick hh _
  · exact s.raiseIllegal_errorsStick

/-! ## Steps -/

/-- The step on a word that decodes as Illegal (60_exceptions.md R226). -/
theorem step_illegal {s : State} {word now : Word} {rest : List HostInput} {e : IllegalWord}
    (hin : s.inputs = .command word now :: rest) (hdec : decode s.params word = .error e) :
    step s = .next (s.accept now rest).raiseIllegal := by
  simp [step, hin, State.decoded, hdec]

theorem step_resetInput {s : State} {rest : List HostInput} (hin : s.inputs = .reset :: rest) :
    step s = .next (s.resetInput rest) := by
  simp [step, hin]

/-- Reset is the only step that ends the halted state or clears `ill` (60_exceptions.md R230). -/
theorem step_errorsStick {s t : State} (hr : s.NoReset) (h : step s = .next t) : ErrorsStick s t := by
  obtain ⟨-, rfl⟩ | ⟨rest, hin, -⟩ | ⟨word, now, rest, i, -, -, hexec⟩ | ⟨word, now, rest, e, -, -, rfl⟩ := step_cases h
  · exact SameErrors.errorsStick ⟨rfl, rfl, rfl⟩
  · exact absurd (by rw [hin]; rfl) hr
  · exact (exec_errorsStick hexec).of_accept
  · exact (State.raiseIllegal_errorsStick _).of_accept

/-! ## The statements -/

/-- Settles O11: the error registers stick over every step but a reset (`step_errorsStick`), which clears them. -/
theorem onlyResetEndsHaltAndClearsIll : Obligations.OnlyResetEndsHaltAndClearsIll :=
  ⟨fun _ _ hr h => ⟨(step_errorsStick hr h).halted, (step_errorsStick hr h).ill⟩,
    fun s rest hin => ⟨s.resetInput rest, step_resetInput hin, rfl, rfl, rfl⟩⟩

/-- Settles O13: the gate of an unconfigured slot stops the five commands (`exec_ignored`), whose value checks pass, and a
slot that is not configured does not send. -/
theorem unconfiguredSlotIgnoresCommands : Obligations.UnconfiguredSlotIgnoresCommands := by
  intro s c hinv hc
  have ignored (i : Instr) (hg : gateOf i = some c) (hwf : i.wf s.params = true) : exec i s = .next s := by
    rw [exec_ignored hg (State.ignores_of_unconfigured hc), if_pos hwf]
  refine ⟨fun w => ignored _ rfl rfl, fun a d ha => ignored _ rfl (decide_eq_true ha),
    fun n hn => ignored _ rfl (decide_eq_true hn), ignored _ rfl rfl, ignored _ rfl rfl, ?_⟩
  exact (execIsSending_eq c s).trans (by rw [hinv.sending_of_unconfigured hc]; rfl)

/-- Settles O14: a command that meets a fatal condition raises it (`exec_fatal`), and among the things a command can do to the
error registers (`exec_errors_cases`) only that one writes `halted` or `cause`. -/
theorem fatalErrorsRecordTheirCause : Obligations.FatalErrorsRecordTheirCause := by
  refine ⟨rfl, rfl, rfl, rfl, fun i s hh => ⟨exec_fatal hh, fun hf t ht => ?_⟩⟩
  obtain hsame | ⟨-, hf', -⟩ | ⟨-, rfl⟩ := exec_errors_cases ht
  · exact ⟨hsame.halted.trans hh, hsame.cause⟩
  · exact absurd hf hf'
  · exact ⟨s.raiseIllegal_halted.trans hh, s.raiseIllegal_cause⟩

/-- Settles O7: the step on an Illegal word is `State.raiseIllegal` after acceptance, and `ill` sticks. -/
theorem illegalWordsOnlySetIll : Obligations.IllegalWordsOnlySetIll := by
  refine ⟨fun s word now rest e hin hdec => ?_, fun s t hr h => (step_errorsStick hr h).ill⟩
  rw [step_illegal hin hdec, State.raiseIllegal_eq]; rfl

/-- Settles O12: the gate stops every command but the reads, and `raise Illegal` does nothing on a halted block. -/
theorem haltedBlockAnswersOnlyReads : Obligations.HaltedBlockAnswersOnlyReads := by
  intro s hh
  refine ⟨fun i hread hbusy => exec_halted hh hread hbusy, fun c => ?_, execReadStatus_eq s,
    fun word now rest e hin hdec => ?_, fun c => ?_⟩
  · exact (execIsSending_eq c s).trans (by rw [flag_setWidth]; rfl)
  · have haccept : (s.accept now rest).halted = true := hh
    rw [step_illegal hin hdec, State.raiseIllegal_of_halted haccept]; rfl
  · simp [State.finished, hh]

end Sys2Proof.Machine

/-! The decoder against the encoder, both ways (30_encoding.md R70 to R81). -/

namespace Sys2Proof.Machine

open Sys2Proof.Laws

/-! ## Decode of encode: what the row of the opcode map fixes, and the operand fields -/

/-- Every command word meets the match and the mask of its row (30_encoding.md R79). -/
theorem encode_row (i : Instr) : EncodeRow.Statement i := by
  cases i with
  | configure kind id wpm => exact EncodeRow.configure kind id wpm
  | setWpm c wpm => exact EncodeRow.setWpm c wpm
  | msgWrite c addr data => exact EncodeRow.msgWrite c addr data
  | submit c len => exact EncodeRow.submit c len
  | tick c => exact EncodeRow.tick c
  | stop c => exact EncodeRow.stop c
  | isSending c => exact EncodeRow.isSending c
  | readStatus => exact EncodeRow.readStatus

/-- A field that lies in the mask of the row is the match column's. -/
theorem field_encode (i : Instr) (k l : Nat) (hmask : (rowMask i).extractLsb' k l = BitVec.allOnes l) :
    (encode i).extractLsb' k l = (rowMatch i).extractLsb' k l := by
  rw [← encode_row i, BitVec.extractLsb'_and, hmask, BitVec.and_allOnes]

/-- OP of each command (30_encoding.md R79). -/
def opCode : Instr → Nat
  | .configure _ _ _ => 1
  | .setWpm _ _ => 2
  | .msgWrite _ _ _ => 3
  | .submit _ _ => 4
  | .tick _ => 5
  | .stop _ => 6
  | .isSending _ => 7
  | .readStatus => 8

/-- OP lies in the mask of every row (30_encoding.md R71). -/
theorem opField_encode (i : Instr) : (opField (encode i)).toNat = opCode i := by
  rw [opField, field_encode i 28 4 (by cases i <;> simp [rowMask])]
  cases i <;> simp [rowMatch, opCode]

/-- The reserved bits of each format (30_encoding.md R81). -/
def rowReserved : Instr → Word
  | .configure _ _ _ => 0x0300FF00#32
  | .setWpm _ _ => 0x07FFFF00#32
  | .msgWrite _ _ _ => 0x07FF0000#32
  | .submit _ _ => 0x07FFFE00#32
  | .tick _ => 0x07FFFFFF#32
  | .stop _ => 0x07FFFFFF#32
  | .isSending _ => 0x07FFFFFF#32
  | .readStatus => 0x0FFFFFFF#32

/-- The mask of a row covers its reserved bits. -/
theorem rowMask_and_rowReserved (i : Instr) : rowMask i &&& rowReserved i = rowReserved i := by
  cases i <;> simp only [rowMask, rowReserved] <;> decide

/-- The match column has 0 at the reserved bits. -/
theorem rowMatch_and_rowReserved (i : Instr) : rowMatch i &&& rowReserved i = 0#32 := by
  cases i <;> simp only [rowMatch, rowReserved] <;> decide

theorem reservedClear_encode (i : Instr) : reservedClear (encode i) (rowReserved i) = true := by
  rw [reservedClear_iff, ← rowMask_and_rowReserved, ← BitVec.and_assoc, encode_row i, rowMatch_and_rowReserved]

theorem Slot.bit_injective {c d : Slot} (h : c.bit = d.bit) : c = d := by
  rw [← ofBit_bit c, h, ofBit_bit]

/-- The slot whose CH bit stands in bit 27. -/
theorem chField_eq {w : Word} {c : Slot} (h : w.extractLsb' 27 1 = c.bit) : chField w = c :=
  Slot.bit_injective ((bit_chField w).trans h)

theorem chField_encode_setWpm (c : Slot) (wpm : Byte) : chField (encode (.setWpm c wpm)) = c :=
  chField_eq <| (field_high _ wpm 19 1).trans <| (field_high _ (0#19) 0 1).trans <| (field_low _ c.bit 0 1 le_rfl).trans <|
    field_all _

theorem chField_encode_msgWrite (c : Slot) (addr data : Byte) : chField (encode (.msgWrite c addr data)) = c :=
  chField_eq <| (field_high _ data 19 1).trans <| (field_high _ addr 11 1).trans <| (field_high _ (0#11) 0 1).trans <|
    (field_low _ c.bit 0 1 le_rfl).trans <| field_all _

theorem chField_encode_submit (c : Slot) (n : BitVec 9) : chField (encode (.submit c n)) = c :=
  chField_eq <| (field_high _ n 18 1).trans <| (field_high _ (0#18) 0 1).trans <| (field_low _ c.bit 0 1 le_rfl).trans <|
    field_all _

/-- The CH formats of TICK, STOP and IS_SENDING differ in OP alone (30_encoding.md R76). -/
theorem chField_chFormat (op : BitVec 4) (c : Slot) : chField (op ++ c.bit ++ 0#27) = c :=
  chField_eq <| (field_high _ (0#27) 0 1).trans <| (field_low _ c.bit 0 1 le_rfl).trans <| field_all _

/-- The decoder's row of a CH format. -/
theorem decodeCh_encode {mk : Slot → Instr} {c : Slot} (hc : chField (encode (mk c)) = c)
    (hr : rowReserved (mk c) = 0x07FFFFFF#32) : decodeCh (encode (mk c)) mk = .ok (mk c) := by
  rw [decodeCh, ← hr, if_pos (reservedClear_encode (mk c)), hc]

/-- OP selects the command's own row of the decoder; what is left is to test the reserved bits and to take the fields. -/
theorem decode_encode {p : Params} {i : Instr} (hwf : i.wf p = true) : decode p (encode i) = .ok i := by
  unfold decode
  rw [opField_encode]
  cases i with
  | configure kind id wpm =>
    refine (if_pos (reservedClear_encode (.configure kind id wpm))).trans ?_
    have hkind : kindField (encode (.configure kind id wpm)) = kind :=
      (field_high _ wpm 18 2).trans <| (field_high _ (0#8) 10 2).trans <| (field_high _ id 2 2).trans <|
        (field_high _ (0#2) 0 2).trans <| (field_low _ kind 0 2 le_rfl).trans <| field_all _
    have hid : idField (encode (.configure kind id wpm)) = id :=
      (field_high _ wpm 8 8).trans <| (field_high _ (0#8) 0 8).trans <| (field_low _ id 0 8 le_rfl).trans <| field_all _
    have hwpm : wpmField (encode (.configure kind id wpm)) = wpm := (field_low _ wpm 0 8 le_rfl).trans <| field_all _
    rw [hkind, hid, hwpm]
  | setWpm c wpm =>
    refine (if_pos (reservedClear_encode (.setWpm c wpm))).trans ?_
    have hwpm : wpmField (encode (.setWpm c wpm)) = wpm := (field_low _ wpm 0 8 le_rfl).trans <| field_all _
    rw [chField_encode_setWpm, hwpm]
  | msgWrite c addr data =>
    refine (if_pos (reservedClear_encode (.msgWrite c addr data))).trans ?_
    have haddr : addrField (encode (.msgWrite c addr data)) = addr :=
      (field_high _ data 0 8).trans <| (field_low _ addr 0 8 le_rfl).trans <| field_all _
    have hdata : dataField (encode (.msgWrite c addr data)) = data := (field_low _ data 0 8 le_rfl).trans <| field_all _
    rw [chField_encode_msgWrite, haddr, hdata]
    exact if_pos (of_decide_eq_true hwf)
  | submit c n =>
    refine (if_pos (reservedClear_encode (.submit c n))).trans ?_
    have hlen : lenField (encode (.submit c n)) = n := (field_low _ n 0 9 le_rfl).trans <| field_all _
    rw [chField_encode_submit, hlen]
    exact if_pos (of_decide_eq_true hwf)
  | tick c => exact decodeCh_encode (mk := .tick) (chField_chFormat _ c) rfl
  | stop c => exact decodeCh_encode (mk := .stop) (chField_chFormat _ c) rfl
  | isSending c => exact decodeCh_encode (mk := .isSending) (chField_chFormat _ c) rfl
  | readStatus => exact if_pos (reservedClear_encode .readStatus)

/-- Settles O2: the row of the opcode map decides OP and the reserved bits, and each operand is the field it was written to. -/
theorem decodeOfEncode : Obligations.DecodeOfEncode := fun _ _ hwf => decode_encode hwf

/-! ## Encode of decode: a legal word is the chain of its fields -/

section
variable {w : Word}

/-- A chain whose two parts are neighbouring fields of a word is a field of that word. -/
theorem append_eq_field {n : Nat} (s m : Nat) {x : BitVec n} {y : BitVec m} (hx : x = w.extractLsb' (s + m) n)
    (hy : y = w.extractLsb' s m) : x ++ y = w.extractLsb' s (n + m) := by
  rw [hx, hy, field_join]

theorem opField_literal {n : Nat} (hop : (opField w).toNat = n) : BitVec.ofNat 4 n = w.extractLsb' 28 4 :=
  (opField_eq hop).symm

/-- A reserved field of a legal word is 0 (30_encoding.md R81). -/
theorem reserved_literal {r : Word} (hr : w &&& r = 0#32) {k l : Nat} (hin : r.extractLsb' k l = BitVec.allOnes l) :
    0#l = w.extractLsb' k l :=
  (field_of_reservedClear ((reservedClear_iff w r).2 hr) k l hin).symm

/-- A word with OP, CH and 27 reserved bits that are 0 (30_encoding.md R76). -/
theorem chFormat_eq {n : Nat} (hop : (opField w).toNat = n) (hr : w &&& 0x07FFFFFF#32 = 0#32) :
    BitVec.ofNat 4 n ++ (chField w).bit ++ 0#27 = w :=
  have hch := append_eq_field 27 1 (opField_literal hop) (bit_chField w)
  (append_eq_field 0 27 hch (reserved_literal hr (by decide))).trans (field_all w)

end

theorem encode_of_answer {p : Params} {w : Word} {i : Instr} (h : Answers p w (.ok i)) : encode i = w ∧ i.wf p = true := by
  cases h with
  | configure hop hr =>
    have hkind := append_eq_field 26 2 (opField_literal hop) (rfl : kindField w = _)
    have hgap := append_eq_field 24 2 hkind (reserved_literal hr (by decide))
    have hid := append_eq_field 16 8 hgap (rfl : idField w = _)
    have hgap' := append_eq_field 8 8 hid (reserved_literal hr (by decide))
    exact ⟨(append_eq_field 0 8 hgap' (rfl : wpmField w = _)).trans (field_all w), rfl⟩
  | setWpm hop hr =>
    have hch := append_eq_field 27 1 (opField_literal hop) (bit_chField w)
    have hgap := append_eq_field 8 19 hch (reserved_literal hr (by decide))
    exact ⟨(append_eq_field 0 8 hgap (rfl : wpmField w = _)).trans (field_all w), rfl⟩
  | msgWrite hop hr ha =>
    have hch := append_eq_field 27 1 (opField_literal hop) (bit_chField w)
    have hgap := append_eq_field 16 11 hch (reserved_literal hr (by decide))
    have haddr := append_eq_field 8 8 hgap (rfl : addrField w = _)
    exact ⟨(append_eq_field 0 8 haddr (rfl : dataField w = _)).trans (field_all w), decide_eq_true ha⟩
  | submit hop hr hl =>
    have hch := append_eq_field 27 1 (opField_literal hop) (bit_chField w)
    have hgap := append_eq_field 9 18 hch (reserved_literal hr (by decide))
    exact ⟨(append_eq_field 0 9 hgap (rfl : lenField w = _)).trans (field_all w), decide_eq_true hl⟩
  | tick hop hr => exact ⟨chFormat_eq hop hr, rfl⟩
  | stop hop hr => exact ⟨chFormat_eq hop hr, rfl⟩
  | isSending hop hr => exact ⟨chFormat_eq hop hr, rfl⟩
  | readStatus hop hr =>
    exact ⟨(append_eq_field 0 28 (opField_literal hop) (reserved_literal hr (by decide))).trans (field_all w), rfl⟩

/-- Settles O3: of the answers of the decoder those that are commands come with OP and the clear reserved bits, which fill the
gaps between the operand fields. -/
theorem encodeOfDecode : Obligations.EncodeOfDecode := by
  intro p w i h
  have ha := decode_answers p w
  rw [h] at ha
  exact encode_of_answer ha

end Sys2Proof.Machine

/-! What the commands but TICK do (43_channel_adapter.md, 41_unit_timing.md, 42_automaton.md), the step, and the precision of
errors (60_exceptions.md). -/

namespace Sys2Proof.Machine

/-! ## The step -/

/-- A command word that decodes is executed after acceptance (00_scope.md R12). -/
theorem step_command {s : State} {word now : Word} {rest : List HostInput} {i : Instr}
    (hin : s.inputs = .command word now :: rest) (hdec : decode s.params word = .ok i) :
    step s = exec i (s.accept now rest) := by
  simp [step, hin, State.decoded, hdec]

theorem step_waiting {s : State} (hin : s.inputs = []) : step s = .next s.quiet := by simp [step, hin]

/-- Settles O6: `State.accept` is the sampled state that the statement writes out. -/
theorem stepRunsTheDecodedCommand : Obligations.StepRunsTheDecodedCommand := fun _ _ _ _ _ hin hdec =>
  step_command hin hdec

/-- Settles O8: `State.quiet` is the state with the strobes low. -/
theorem waitingChangesNoRegister : Obligations.WaitingChangesNoRegister := fun _ hin => step_waiting hin

/-- Settles O9: `State.resetInput` keeps what is not the block's and counts the reset. -/
theorem resetInputRestoresEveryRegister : Obligations.ResetInputRestoresEveryRegister := fun _ _ hin =>
  step_resetInput hin

/-! ## CONFIGURE and SET_WPM -/

/-- A change of channel c's registers that keeps its store issues nothing and keeps the rest of the block. -/
theorem State.mapChan_frame (s : State) (c : Slot) {f : Channel → Channel} (hf : (f (s.chan c)).msg = (s.chan c).msg) :
    SameOutside c s (s.mapChan c f) ∧ Silent s (s.mapChan c f) ∧ SameMemory s (s.mapChan c f) := by
  refine ⟨SameOutside.mapChan c s f, ⟨s.mapChan_rsp c f, s.mapChan_evts c f⟩, (SameOutside.mapChan c s f).sameMemory ?_⟩
  rw [State.chan_mapChan, hf]

/-- Settles O16: `fatalCause` names the first of the three tests that fails, and `execConfigure_eq` raises it or binds the
slot. -/
theorem configureBindsAFreeSlot : Obligations.ConfigureBindsAFreeSlot := by
  intro kind id wpm s c
  refine ⟨fun hh => execConfigure_halted hh kind id wpm, fun hh => ⟨fun hk => ?_, fun hk hw => ?_, fun hk hw hd => ?_,
    fun hk hw hd => ?_⟩⟩
  · have hf : fatalCause s (.configure kind id wpm) = .badKind := if_pos hk
    exact (exec_fatal hh (by simp [hf])).trans (by rw [hf]; rfl)
  · have hf : fatalCause s (.configure kind id wpm) = .wpmZero :=
      (if_neg (not_le.2 hk)).trans (if_pos hw)
    exact (exec_fatal hh (by simp [hf])).trans (by rw [hf]; rfl)
  · have hf : fatalCause s (.configure kind id wpm) = .duplicate :=
      (if_neg (not_le.2 hk)).trans ((if_neg hw).trans (if_pos hd))
    exact (exec_fatal hh (by simp [hf])).trans (by rw [hf]; rfl)
  · have hf : fatalCause s (.configure kind id wpm) = .none :=
      (if_neg (not_le.2 hk)).trans ((if_neg hw).trans (if_neg (by rw [hd]; decide)))
    exact ⟨_, (execConfigure_eq hh kind id wpm).trans (by rw [if_pos hf]), State.chan_mapChan _ _ _, s.mapChan_frame c rfl⟩

/-- A command of one gate, on a halted block or an unconfigured slot, in the terms of the statements. -/
theorem exec_gated {i : Instr} {c : Slot} {s : State} (hc : gateOf i = some c) (hwf : i.wf s.params = true) :
    (s.halted = true → exec i s = .next s) ∧
      (s.halted = false → (s.chan c).configured = false → exec i s = .next s) := by
  have ignored (hi : s.ignores c = true) : exec i s = .next s := by rw [exec_ignored hc hi, if_pos hwf]
  exact ⟨fun hh => ignored (State.ignores_of_halted hh c), fun _ hn => ignored (State.ignores_of_unconfigured hn)⟩

/-- Settles O17: the gate, the fatal test, and then `State.withRate`. -/
theorem setWpmChangesOnlyTheRate : Obligations.SetWpmChangesOnlyTheRate := by
  intro c wpm s
  obtain ⟨halted, unconfigured⟩ := exec_gated (i := .setWpm c wpm) (s := s) rfl rfl
  refine ⟨halted, unconfigured, fun hl hw => ?_, fun hl hw => ?_⟩
  · have hf : fatalCause s (.setWpm c wpm) = .wpmZero := if_pos ⟨hl.2, hw⟩
    exact (exec_fatal hl.1 (by simp [hf])).trans (by rw [hf]; rfl)
  · exact ⟨s.withRate c wpm, execSetWpm_eq hl hw, s.chan_withRate c wpm, s.mapChan_frame c rfl⟩

/-! ## MSG_WRITE and SUBMIT -/

theorem execMsgWrite_outside {c : Slot} {addr : Byte} {s : State} (ha : s.params.msgDepth ≤ addr.toNat) (data : Byte) :
    execMsgWrite c addr data s = .next s.raiseIllegal := by
  simp [execMsgWrite, Instr.wf, ha]

/-- A busy MSG_WRITE (42_automaton.md R146). -/
theorem execMsgWrite_busy {c : Slot} {addr : Byte} {s : State} (ha : addr.toNat < s.params.msgDepth)
    (hs : (s.chan c).sending = true) (data : Byte) : execMsgWrite c addr data s = .next s := by
  simp [execMsgWrite, Instr.wf, ha, hs]

/-- A MSG_WRITE that is taken (42_automaton.md R146). -/
theorem execMsgWrite_eq {c : Slot} {addr : Byte} {s : State} (hl : s.Live c) (hs : (s.chan c).sending = false)
    (ha : addr.toNat < s.params.msgDepth) (data : Byte) :
    execMsgWrite c addr data s = .next (s.memWrite c addr.toNat (foldCase data)) := by
  simp [execMsgWrite, Instr.wf, ha, hl.ignores, hs]

@[simp] theorem State.chan_memWrite (s : State) (c : Slot) (a : Nat) (v : Byte) :
    (s.memWrite c a v).chan c = { s.chan c with msg := (s.chan c).msg.write a v } := s.chan_mapChan c _

theorem State.memWrite_sameOutside (s : State) (c : Slot) (a : Nat) (v : Byte) : SameOutside c s (s.memWrite c a v) :=
  SameOutside.mapChan c s _

theorem State.memWrite_silent (s : State) (c : Slot) (a : Nat) (v : Byte) : Silent s (s.memWrite c a v) :=
  ⟨s.mapChan_rsp c _, s.mapChan_evts c _⟩

/-- Settles O20: the value check, the gate and the busy test, and then `State.memWrite`, which reads back as written. -/
theorem msgWriteStoresTheFoldedByte : Obligations.MsgWriteStoresTheFoldedByte := by
  intro c addr data s
  refine ⟨fun ha => ?_, fun ha => ?_⟩
  · rw [← State.raiseIllegal_eq]; exact execMsgWrite_outside ha data
  obtain ⟨halted, unconfigured⟩ := exec_gated (i := .msgWrite c addr data) (s := s) rfl (decide_eq_true ha)
  refine ⟨halted, unconfigured, fun _ hs => execMsgWrite_busy ha hs data, fun hl hs => ?_⟩
  exact ⟨_, execMsgWrite_eq hl hs ha data, State.byteAt_memWrite_same _ _ _ _,
    fun d a hda => State.byteAt_memWrite_other _ _ _ _ hda, by rw [State.chan_memWrite], State.memWrite_sameOutside _ _ _ _,
    State.memWrite_silent _ _ _ _⟩

theorem execSubmit_tooLong {c : Slot} {n : BitVec 9} {s : State} (hn : s.params.msgDepth < n.toNat) :
    execSubmit c n s = .next s.raiseIllegal := by
  simp [execSubmit, Instr.wf, hn]

/-- Settles O21: the value check, the gate and the busy test, and then `Channel.start`. -/
theorem submitPrimesTheChannel : Obligations.SubmitPrimesTheChannel := by
  intro c n s
  refine ⟨fun hn => ?_, fun hn => ?_⟩
  · rw [← State.raiseIllegal_eq]; exact execSubmit_tooLong hn
  obtain ⟨halted, unconfigured⟩ := exec_gated (i := .submit c n) (s := s) rfl (decide_eq_true hn)
  refine ⟨halted, unconfigured, fun _ hs => execSubmit_busy hn hs, fun hl hs => ?_⟩
  exact ⟨_, execSubmit_eq hl hs hn, State.chan_mapChan _ _ _, s.mapChan_frame c rfl⟩

/-! ## drive and STOP -/

theorem State.drive_sameMemory (s : State) (c : Slot) (on : Bool) : SameMemory s (s.drive c on) :=
  (s.drive_sameOutside c on).sameMemory (by rw [State.chan_drive])

theorem requestEvents_toggle (ch : Channel) (on : Bool) : requestEvents .toggle ch on = [.setLevel ch.id on] := rfl

theorem requestEvents_cw_same {ch : Channel} {on : Bool} (h : on = ch.actOn) : requestEvents .cw ch on = [] := by
  simp [requestEvents, slotKind, h]

theorem requestEvents_cw_change {ch : Channel} {on : Bool} (h : on ≠ ch.actOn) :
    requestEvents .cw ch on = [if on then .enableTone ch.id else .disableTone ch.id] := by
  cases on <;> simp [requestEvents, slotKind, h]

/-- Settles O46: `State.drive_eq` splits drive into the write of `act_on` and `requestEvents`, read slot by slot. -/
theorem driveSkipsOnlyRedundantTones : Obligations.DriveSkipsOnlyRedundantTones := by
  intro c on s
  refine ⟨s.chan_drive c on, s.drive_sameOutside c on, s.drive_rsp c on, s.drive_sameMemory c on, ?_, ?_, ?_⟩
  · rintro rfl
    rw [State.drive_evts, requestEvents_toggle]
  · rintro rfl hsame
    rw [State.drive_eq, State.setAct_eq_self hsame, requestEvents_cw_same hsame, State.addEvts_nil]
  · rintro rfl hchange
    rw [State.drive_evts, requestEvents_cw_change hchange]

/-- STOP on a channel that takes commands (42_automaton.md R170). -/
theorem execStop_eq {c : Slot} {s : State} (hl : s.Live c) :
    execStop c s = .next
      (if (s.chan c).actOn then (s.mapChan c Channel.goIdle).drive c false else s.mapChan c Channel.goIdle) := by
  cases ha : (s.chan c).actOn <;> simp [execStop, hl.ignores, ha]

/-- Settles O23: the gate, and then go_idle with the actuator driven off when it was on. -/
theorem stopIdlesAndDrivesOff : Obligations.StopIdlesAndDrivesOff := by
  intro c s
  obtain ⟨halted, unconfigured⟩ := exec_gated (i := .stop c) (s := s) rfl rfl
  refine ⟨halted, unconfigured, fun hl => ⟨_, execStop_eq hl, ?_⟩⟩
  cases ha : (s.chan c).actOn with
  | false =>
    refine ⟨?_, by simp, by simp, SameOutside.mapChan _ _ _, s.goIdle_sameMemory c⟩
    rw [if_neg Bool.false_ne_true, State.chan_mapChan]
    simp [Channel.goIdle, ha]
  | true =>
    have hout := (SameOutside.mapChan c s Channel.goIdle).trans ((s.mapChan c Channel.goIdle).drive_sameOutside c false)
    refine ⟨by simp [Channel.goIdle], ?_, by simp, hout, hout.sameMemory (by simp)⟩
    rw [if_pos rfl, State.drive_evts, State.mapChan_evts, State.chan_mapChan]
    cases c with
    | toggle => rfl
    | cw => rw [requestEvents_cw_change (by simp [ha])]; rfl

/-! ## IS_SENDING -/

/-- Settles O24: the response is the busy bit, zero-extended. -/
theorem isSendingReadsTheBusyBit : Obligations.IsSendingReadsTheBusyBit := by
  intro c s
  exact (execIsSending_eq c s).trans (by rw [flag_setWidth]; rfl)

/-! ## The precision of errors -/

/-- Settles O15: of the three things a command can do to the error registers the first changes none of them, and the other two
change only them. -/
theorem errorsArePrecise : Obligations.ErrorsArePrecise := by
  refine fun i s t h => ⟨fun hchange => ?_, ?_⟩
  · obtain ⟨hhalted, hcause, hill⟩ | ⟨-, -, rfl⟩ | ⟨-, rfl⟩ := exec_errors_cases h
    · simp [hhalted, hcause, hill] at hchange
    · rfl
    · rw [State.raiseIllegal_eq]
  · rintro c rfl
    have hout : SameOutside c s t := execTick_sameOutside h
    exact ⟨hout.halted, hout.cause, hout.ill⟩

end Sys2Proof.Machine

/-! The ROM and its element functions (40_code_rom.md). -/

namespace Sys2Proof.Machine

/-! ## Elements -/

section
variable {p : Byte}

theorem toNat_ne_zero_of_ne (hp : p ≠ 0x00#8) : p.toNat ≠ 0 := (wpm_pos_of_ne hp).ne'

/-- Elements remain at an index exactly when it is below the sentinel's (40_code_rom.md R102). -/
theorem more_iff (hp : p ≠ 0x00#8) (i : BitVec 3) : more p i = true ↔ i.toNat < nelem p := by
  have hp := toNat_ne_zero_of_ne hp
  rw [more, decide_eq_true_iff, nelem, Nat.shiftRight_eq_div_pow, Nat.lt_iff_add_one_le,
    Nat.le_div_iff_mul_le (Nat.two_pow_pos _), Nat.lt_iff_add_one_le, Nat.le_log2 hp, Nat.pow_succ, Nat.mul_comm]

theorem nelem_le_seven (hp : p ≠ 0x00#8) : nelem p ≤ 7 :=
  Nat.le_of_lt_succ ((Nat.log2_lt (toNat_ne_zero_of_ne hp)).2 p.isLt)

/-- Every pattern of a tone has an element; the word space has none (40_code_rom.md R101). -/
theorem nelem_pos (hp : p ≠ 0x00#8) (hspace : p ≠ wordSpace) : 0 < nelem p := by
  have hone : p.toNat ≠ 1 := fun h => hspace (BitVec.eq_of_toNat_eq h)
  have hne := toNat_ne_zero_of_ne hp
  exact (Nat.le_log2 hne).2 (by omega)

/-- Settles O45: `nelem` is the logarithm of the pattern, whose bit is the highest one set. -/
theorem moreMeansElementsRemain : Obligations.MoreMeansElementsRemain := by
  intro p hp
  have hne := toNat_ne_zero_of_ne hp
  refine ⟨nelem_le_seven hp, Nat.testBit_log2 hne, fun n hn => ?_, more_iff hp⟩
  exact Nat.testBit_lt_two_pow ((Nat.log2_lt hne).1 hn)

end

/-! ## The table -/

theorem romRead_of_lookup {ch p : Byte} (h : romTable.lookup ch = some p) (nf : Byte) : romRead nf ch = p := by
  rw [romRead, h, Option.getD_some]

/-- NOT_FOUND_CODE answers for the codes without an entry: a table entry does not change with it. -/
theorem romRead_eq_notFound_iff (ch : Byte) : (∀ nf, romRead nf ch = nf) ↔ romTable.lookup ch = none := by
  cases h : romTable.lookup ch with
  | none => simp [romRead, h]
  | some p =>
    refine iff_of_false (fun hall => ?_) nofun
    have hnext := hall (p + 1#8)
    rw [romRead_of_lookup h] at hnext
    bv_omega

/-- The codes without an entry (40_code_rom.md R103). -/
theorem lookup_eq_none_iff (ch : Byte) :
    romTable.lookup ch = none ↔
      (ch.toNat ≤ 0x1F ∨ ch = 0x23#8 ∨ ch = 0x25#8 ∨ ch = 0x2A#8 ∨ ch = 0x3C#8 ∨ ch = 0x3E#8 ∨
        (0x5B ≤ ch.toNat ∧ ch.toNat ≤ 0x5E) ∨ 0x60 ≤ ch.toNat) := by
  revert ch; decide +kernel

theorem romRead_space (nf : Byte) : romRead nf 0x20#8 = wordSpace := romRead_of_lookup rfl nf

/-- The entry of every character of the Morse column has the elements of its row (40_code_rom.md R105). -/
theorem lookup_morseColumn :
    ∀ x ∈ morseColumn, (romTable.lookup x.1).map elements = some x.2 := by decide

theorem elements_romRead (nf : Byte) {x : Byte × List Bool} (hx : x ∈ morseColumn) : elements (romRead nf x.1) = x.2 := by
  obtain ⟨p, hp, he⟩ := Option.map_eq_some_iff.1 (lookup_morseColumn x hx)
  rw [romRead_of_lookup hp, he]

/-- The Morse column lists the codes of the table in the table's order. -/
theorem map_romRead_codes :
    (0x20#8 :: morseColumn.map (·.1)).map (romRead 0x80#8) = romTable.map (·.2) := by decide

/-- Settles O43: the rows of the Morse column are evaluated one by one; the 55 patterns are those of the table. -/
theorem romHoldsTheMorseTable : Obligations.RomHoldsTheMorseTable := by
  refine ⟨fun nf _ hx => elements_romRead nf hx, romRead_space, rfl, ?_, fun x hx => ?_⟩
  · rw [map_romRead_codes]; decide +kernel
  · have hall : ∀ p ∈ romTable.map (·.2), p ≠ 0x00#8 ∧ p ≠ 0x80#8 := by decide
    exact hall _ (map_romRead_codes ▸ List.mem_map_of_mem hx)

/-- Settles O44: NOT_FOUND_CODE answers for the codes without an entry, which are the listed ones. -/
theorem otherCodesHoldNotFoundCode : Obligations.OtherCodesHoldNotFoundCode :=
  ⟨fun ch => (romRead_eq_notFound_iff ch).trans (lookup_eq_none_iff ch), romRead_space,
    fun nf _ hx => elements_romRead nf hx, by decide +kernel⟩

end Sys2Proof.Machine

/-! The invariant (10_state.md section 6): every change of a channel's registers that a command makes keeps it, so every step
does; and from a state that meets it no step stops. -/

namespace Sys2Proof.Machine

/-! ## A channel that meets the invariant -/

/-- The part of the invariant that does not speak of a transmission. -/
structure Channel.Stored (p : Params) (ch : Channel) : Prop where
  store : ch.msg.wf
  storeAddr : ∀ x ∈ ch.msg, x.1 < p.msgDepth
  len_le : ch.len.toNat ≤ p.msgDepth
  wpm_pos : ch.configured = true → ch.wpm ≠ 0x00#8

/-- A channel in a transmission with no tone on: in a gap, or in AWAIT. -/
structure Channel.BetweenElements (p : Params) (ch : Channel) : Prop extends ch.Stored p where
  sending : ch.sending = true
  configured : ch.configured = true
  off : ch.actOn = false

section
variable {p : Params} {ch : Channel}

/-- The reset values meet the invariant whatever the parameters are. -/
theorem Channel.inv_reset (p : Params) : Channel.reset.Inv p where
  store := .nil
  storeAddr := nofun
  len_le := Nat.zero_le _
  char_le := Nat.zero_le _
  not_pending := nofun
  idle _ := ⟨rfl, rfl, rfl, rfl, rfl⟩
  primed := nofun
  busy_configured := nofun
  wpm_pos := nofun
  act_iff := by simp [Channel.reset]
  in_char := by simp [Channel.reset]
  bit_on := nofun
  bit_gap := nofun

theorem Channel.Inv.stored (h : ch.Inv p) : ch.Stored p := { h with }

/-- The actuator is on in an element only (43_channel_adapter.md R197). -/
theorem Channel.Inv.off_of_phase (h : ch.Inv p) (hp : ch.phase ≠ .elemOn) : ch.actOn = false :=
  Bool.eq_false_iff.2 fun hon => hp (h.act_iff.1 hon).2.1

theorem Channel.Inv.off_of_idle (h : ch.Inv p) (hs : ch.sending = false) : ch.actOn = false :=
  Bool.eq_false_iff.2 fun hon => Bool.false_ne_true (hs.symm.trans (h.act_iff.1 hon).1)

theorem Channel.Inv.betweenElements (h : ch.Inv p) (hs : ch.sending = true) (hp : ch.phase ≠ .elemOn) :
    ch.BetweenElements p :=
  { h.stored with sending := hs, configured := h.busy_configured hs, off := h.off_of_phase hp }

/-- CONFIGURE with a legal rate (43_channel_adapter.md R190). -/
theorem Channel.Inv.configure (h : ch.Inv p) (id : Byte) {wpm : Byte} (hw : wpm ≠ 0x00#8) :
    ({ ch with configured := true, id := id, wpm := wpm } : Channel).Inv p :=
  { h with busy_configured := fun _ => rfl, wpm_pos := fun _ => hw }

/-- SET_WPM with a legal rate (41_unit_timing.md R130). -/
theorem Channel.Inv.setWpm (h : ch.Inv p) {wpm : Byte} (hw : wpm ≠ 0x00#8) : ({ ch with wpm := wpm } : Channel).Inv p :=
  { h with wpm_pos := fun _ => hw }

/-- A store inside the address range (20_memory.md R58). -/
theorem Channel.Inv.write (h : ch.Inv p) {a : Nat} (ha : a < p.msgDepth) (v : Byte) :
    ({ ch with msg := ch.msg.write a v } : Channel).Inv p :=
  { h with
    store := Memory.wf_write h.store a v
    storeAddr := fun x hx => by
      obtain rfl | hx := Memory.mem_write hx
      · exact ha
      · exact h.storeAddr x hx }

/-- SUBMIT on an idle channel (42_automaton.md R150). -/
theorem Channel.Inv.start (h : ch.Inv p) (hc : ch.configured = true) (hs : ch.sending = false) {n : BitVec 9}
    (hn : n.toNat ≤ p.msgDepth) (now : Word) : (ch.start n now).Inv p :=
  { h with
    len_le := hn
    char_le := Nat.zero_le _
    not_pending := nofun
    idle := nofun
    primed := fun _ _ => ⟨rfl, rfl, rfl, rfl⟩
    busy_configured := fun _ => hc
    act_iff := by simp [h.off_of_idle hs]
    in_char := by simp
    bit_on := nofun
    bit_gap := nofun }

/-- go_idle with the actuator off (42_automaton.md R143, R170). -/
theorem Channel.Stored.goIdle_off (h : ch.Stored p) : ({ ch.goIdle with actOn := false } : Channel).Inv p :=
  { h with
    char_le := Nat.zero_le _
    not_pending := nofun
    idle := fun _ => ⟨rfl, rfl, rfl, rfl, rfl⟩
    primed := nofun
    busy_configured := nofun
    act_iff := by simp
    in_char := by simp
    bit_on := nofun
    bit_gap := nofun }

theorem Channel.Stored.goIdle (h : ch.Stored p) (hoff : ch.actOn = false) : ch.goIdle.Inv p := by
  have he : ({ ch.goIdle with actOn := false } : Channel) = ch.goIdle := by simp [Channel.goIdle, hoff]
  exact he ▸ h.goIdle_off

/-- gap_pending at the end of an element (42_automaton.md R164): the index moves on by one, inside the pattern. -/
theorem Channel.Inv.withGap (h : ch.Inv p) (hs : ch.sending = true) (hp : ch.phase = .elemOn) (now : Word) :
    (ch.withGap now).Inv p := by
  obtain ⟨hpat, hchar⟩ := h.in_char (.inl hp)
  have hnelem := nelem_le_seven hpat
  have hbit : (ch.bitIndex + 1#3).toNat ≤ max (nelem ch.pattern) 1 := by
    obtain hlt | ⟨-, hzero⟩ := h.bit_on hp
    · bv_omega
    · rw [hzero]; exact le_max_right _ _
  have hoff : (ch.withGap now).actOn = false := by
    by_cases hspace : ch.pattern = wordSpace
    · have hact : ch.actOn = false := Bool.eq_false_iff.2 fun hon => (h.act_iff.1 hon).2.2 hspace
      simp [Channel.withGap, hact]
    · simp [Channel.withGap, hspace]
  exact { h with
    not_pending := nofun
    idle := fun hidle => absurd hs (by simpa [Channel.withGap] using hidle)
    primed := nofun
    act_iff := by simp [hoff]
    in_char := fun _ => ⟨hpat, hchar⟩
    bit_on := nofun
    bit_gap := fun _ => hbit }

/-- element_on between the elements (42_automaton.md R163), at a character of the message and an element of its pattern. -/
theorem Channel.BetweenElements.withElement (h : ch.BetweenElements p) (hchar : ch.charIndex.toNat < ch.len.toNat)
    (hpat : ch.pattern ≠ 0x00#8)
    (hbit : ch.bitIndex.toNat < nelem ch.pattern ∨ (ch.pattern = wordSpace ∧ ch.bitIndex = 0#3)) (now : Word) :
    (ch.withElement now).Inv p := by
  -- the invariant does not read the deadline, in which alone a hold and a tone differ otherwise
  have same : { ch.withElement now with deadline := ch.deadline } =
      { ch with phase := .elemOn, actOn := decide (ch.pattern ≠ wordSpace) } := by
    by_cases hspace : ch.pattern = wordSpace
    · simp [Channel.withElement, hspace, h.off]
    · simp [Channel.withElement, hspace]
  have inv : ({ ch with phase := .elemOn, actOn := decide (ch.pattern ≠ wordSpace) } : Channel).Inv p :=
    { h with
      char_le := hchar.le
      not_pending := nofun
      idle := fun hidle => absurd h.sending (by simpa using hidle)
      primed := nofun
      busy_configured := fun _ => h.configured
      act_iff := by simp [h.sending]
      in_char := fun _ => ⟨hpat, hchar⟩
      bit_on := fun _ => hbit
      bit_gap := nofun }
  rw [← same] at inv
  exact { inv with }

/-- A loaded character is in its first element, or in the word-space hold. -/
theorem Channel.BetweenElements.load (h : ch.BetweenElements p) (hchar : ch.charIndex.toNat < ch.len.toNat) {pat : Byte}
    (hpat : pat ≠ 0x00#8) (now : Word) : ((ch.withPattern pat now).withElement now).Inv p := by
  have hload : (ch.withPattern pat now).BetweenElements p := { h with }
  refine hload.withElement hchar hpat ?_ now
  by_cases hspace : pat = wordSpace
  · exact .inr ⟨hspace, rfl⟩
  · exact .inl (nelem_pos hpat hspace)

end

/-! ## A state that meets the invariant -/

section
variable {s t : State} {c : Slot} {now : Word}

/-- A change inside channel c that keeps the channel sound. -/
theorem State.Inv.of_sameOutside (h : s.Inv) (ho : SameOutside c s t) (hc : (t.chan c).Inv s.params) : t.Inv where
  params := ho.params ▸ h.params
  chan d := by
    rw [ho.params]
    obtain rfl | rfl := eq_or_eq_otherSlot c d
    · exact hc
    · rw [ho.other]; exact h.chan _
  cause_iff := by rw [ho.halted, ho.cause]; exact h.cause_iff

theorem State.Inv.mapChan (h : s.Inv) {f : Channel → Channel} (hc : (f (s.chan c)).Inv s.params) : (s.mapChan c f).Inv :=
  h.of_sameOutside (SameOutside.mapChan c s f) (by rwa [State.chan_mapChan])

/-- A change of the global registers that keeps `cause` and `halted` in step (10_state.md R35). -/
theorem State.Inv.of_chan_eq (h : s.Inv) (hp : t.params = s.params) (hc : ∀ d, t.chan d = s.chan d)
    (herr : t.halted = true ↔ t.cause ≠ .none) : t.Inv where
  params := hp ▸ h.params
  chan d := by rw [hp, hc]; exact h.chan d
  cause_iff := herr

theorem State.Inv.raiseFatal (h : s.Inv) {code : Cause} (hcode : code ≠ .none) : (s.raiseFatal code).Inv :=
  h.of_chan_eq rfl (s.chan_raiseFatal code) (by simp [hcode])

theorem State.Inv.raiseIllegal (h : s.Inv) : s.raiseIllegal.Inv :=
  h.of_chan_eq s.raiseIllegal_params s.chan_raiseIllegal (by simpa using h.cause_iff)

theorem State.Inv.respond (h : s.Inv) (v : Word) : (s.respond v).Inv :=
  h.of_chan_eq rfl (s.chan_respond v) h.cause_iff

theorem State.Inv.quiet (h : s.Inv) : s.quiet.Inv := h.of_chan_eq rfl s.chan_quiet h.cause_iff

theorem State.Inv.accept (h : s.Inv) (now : Word) (rest : List HostInput) : (s.accept now rest).Inv :=
  h.of_chan_eq rfl (s.chan_accept now rest) h.cause_iff

/-- Every channel has its reset values, and the parameters are kept. -/
theorem State.Inv.resetInput (h : s.Inv) (rest : List HostInput) : (s.resetInput rest).Inv where
  params := h.params
  chan d := by rw [State.chan_resetInput]; exact Channel.inv_reset _
  cause_iff := by simp

/-! ## AWAIT -/

/-- Characters of the message are counted without a wrap. -/
theorem toNat_charIndex_add {ch : Channel} {k : Nat} (hk : ch.charIndex.toNat + k ≤ ch.len.toNat) :
    (ch.charIndex + BitVec.ofNat 9 k).toNat = ch.charIndex.toNat + k := by
  have := ch.len.isLt
  rw [BitVec.toNat_add, BitVec.toNat_ofNat]
  omega

/-- AWAIT at a character of the message, or at its end, leaves the channel idle or in the element of a character. -/
theorem awaitChars_inv (hnf : s.params.notFoundCode ≠ 0x00#8) (hb : (s.chan c).BetweenElements s.params)
    (hchar : (s.chan c).charIndex.toNat ≤ (s.chan c).len.toNat) (h : awaitChars c now s = .next t) :
    (t.chan c).Inv s.params := by
  obtain ⟨k, d, -, ⟨-, rfl⟩ | ⟨hk, b, -, -, -, rfl⟩⟩ := awaitRun_cases h
  · rw [State.chan_mapChan, State.chan_mapChan]
    exact Channel.Stored.goIdle { hb with } hb.off
  · rw [BitVec.toNat_sub_of_le (BitVec.le_def.2 hchar)] at hk
    have hcons : (Channel.consumed k d (s.chan c)).BetweenElements s.params := { hb with }
    have hlt : (Channel.consumed k d (s.chan c)).charIndex.toNat < (s.chan c).len.toNat := by
      show ((s.chan c).charIndex + BitVec.ofNat 9 k).toNat < _
      rw [toNat_charIndex_add (by omega)]; omega
    rw [State.chan_loadChar, State.chan_mapChan, State.mapChan_params]
    exact hcons.load hlt (romRead_ne_zero hnf b) now

/-! ## The commands -/

/-- TICK keeps the invariant, phase by phase. -/
theorem execTick_inv (hi : s.Inv) (h : execTick c s = .next t) : t.Inv := by
  have ho := execTick_sameOutside h
  have hch := hi.chan c
  obtain ⟨-, -, hnf, -⟩ := hi.params
  obtain rfl | ⟨-, hs, hphase⟩ := execTick_cases h
  · exact hi
  refine hi.of_sameOutside ho ?_
  obtain ⟨hp, hw⟩ | ⟨hp, -, rfl⟩ | ⟨hp, -, -, hw⟩ | ⟨hp, -, hm, rfl⟩ := hphase
  · exact awaitChars_inv hnf (hch.betweenElements hs (by simp [hp])) hch.char_le hw
  · rw [State.chan_gapPending]; exact hch.withGap hs hp _
  · obtain ⟨-, hlt⟩ := hch.in_char (.inr hp)
    have hb : (s.chan c).finishChar.BetweenElements s.params :=
      { hch.betweenElements hs (by simp [hp]) with }
    rw [← State.mapChan_params s c Channel.finishChar] at hnf hb ⊢
    refine awaitChars_inv hnf (by simpa using hb) ?_ hw
    have hnext : ((s.chan c).charIndex + 1#9).toNat ≤ (s.chan c).len.toNat := by bv_omega
    simpa using hnext
  · obtain ⟨hpat, hlt⟩ := hch.in_char (.inr hp)
    rw [State.chan_elementOn]
    exact (hch.betweenElements hs (by simp [hp])).withElement hlt hpat (.inl ((more_iff hpat _).1 hm)) _

/-- STOP leaves the actuator off, by the request or because it was off. -/
theorem execStop_inv (hi : s.Inv) (h : execStop c s = .next t) : t.Inv := by
  have hch := (hi.chan c).stored
  obtain rfl | ⟨-, hoff, rfl⟩ | ⟨-, -, rfl⟩ := execStop_cases h
  · exact hi
  · exact hi.mapChan (hch.goIdle hoff)
  · refine hi.of_sameOutside ((SameOutside.mapChan _ _ _).trans (State.drive_sameOutside _ _ _)) ?_
    rw [State.chan_drive, State.chan_mapChan]
    exact hch.goIdle_off

/-- Every command keeps the invariant. -/
theorem exec_inv {i : Instr} (hi : s.Inv) (h : exec i s = .next t) : t.Inv := by
  cases i with
  | configure kind id wpm =>
    obtain ⟨-, rfl⟩ | ⟨-, code, hcode, rfl⟩ | ⟨-, hw, c, -, -, rfl⟩ := execConfigure_cases h
    · exact hi
    · exact hi.raiseFatal hcode
    · exact hi.mapChan ((hi.chan c).configure id hw)
  | setWpm c wpm =>
    obtain rfl | ⟨-, -, rfl⟩ | ⟨-, hw, rfl⟩ := execSetWpm_cases h
    · exact hi
    · exact hi.raiseFatal (by decide)
    · exact hi.mapChan ((hi.chan c).setWpm hw)
  | msgWrite c addr data =>
    obtain rfl | ⟨-, rfl⟩ | ⟨-, -, ha, rfl⟩ := execMsgWrite_cases h
    · exact hi
    · exact hi.raiseIllegal
    · exact hi.mapChan ((hi.chan c).write ha _)
  | submit c n =>
    obtain rfl | ⟨-, rfl⟩ | ⟨hl, hs, hn, rfl⟩ := execSubmit_cases h
    · exact hi
    · exact hi.raiseIllegal
    · exact hi.mapChan ((hi.chan c).start hl.2 hs hn _)
  | tick c => exact execTick_inv hi h
  | stop c => exact execStop_inv hi h
  | isSending c => cases h; exact hi.respond _
  | readStatus => cases h; exact hi.respond _

end

/-- Settles O51: both channels have their reset values, and the parameters are the defaults. -/
theorem resetMeetsInvariant : Obligations.ResetMeetsInvariant where
  params := by decide
  chan c := by rw [State.chan_reset]; exact Channel.inv_reset _
  cause_iff := by decide

/-- Settles O52: a step waits, resets, executes a command or raises Illegal, and each keeps the invariant. -/
theorem stepKeepsInvariant : Obligations.StepKeepsInvariant := by
  intro s t hi h
  obtain ⟨-, rfl⟩ | ⟨rest, -, rfl⟩ | ⟨word, now, rest, i, -, -, hexec⟩ | ⟨word, now, rest, e, -, -, rfl⟩ := step_cases h
  · exact hi.quiet
  · exact hi.resetInput rest
  · exact exec_inv (hi.accept now rest) hexec
  · exact (hi.accept now rest).raiseIllegal

/-! ## TICK on a channel that does not run, and a second TICK -/

section
variable {s t : State} {c : Slot}

/-- A TICK finds nothing to do on a channel that does not run (42_automaton.md R160). -/
theorem execTick_notRunning (hr : ¬s.Running c) : execTick c s = .next s := by
  by_cases hi : s.ignores c = true
  · exact exec_ignored (i := .tick c) rfl hi
  · have hl := State.ignores_eq_false.1 (by simpa using hi)
    have hs : (s.chan c).sending = false := by simpa using fun hs => hr ⟨hl, hs⟩
    simp [execTick, hi, hs]

/-- All that a TICK can leave behind: the state it found, an idle channel, or a timed phase just begun. -/
theorem execTick_settled (h : execTick c s = .next t) :
    t = s ∨ (t.chan c).sending = false ∨
      (s.Running c ∧ ((t.chan c).phase = .elemOn ∨ (t.chan c).phase = .gapActive) ∧
        ∃ k, IsUnitCount k ∧ (t.chan c).deadline = deadlineAt k (s.chan c).wpm s.nowMs) := by
  obtain rfl | ⟨hl, hs, hphase⟩ := execTick_cases h
  · exact .inl rfl
  refine .inr ?_
  obtain ⟨-, hw⟩ | ⟨-, -, rfl⟩ | ⟨-, -, -, hw⟩ | ⟨-, -, -, rfl⟩ := hphase
  · obtain ⟨-, -, -, -, -, -, -, -, ⟨hidle, -⟩ | ⟨-, hp, hd, -⟩⟩ := awaitChars_next hw
    · exact .inl hidle
    · exact .inr ⟨⟨hl, hs⟩, .inl hp, hd⟩
  · rw [State.chan_gapPending]
    exact .inr ⟨⟨hl, hs⟩, .inr rfl, Channel.withGap_deadline_isUnitCount _ _⟩
  · obtain ⟨-, -, -, -, -, -, -, -, ⟨hidle, -⟩ | ⟨-, hp, hd, -⟩⟩ := awaitChars_next hw
    · exact .inl hidle
    · exact .inr ⟨⟨hl, hs⟩, .inl hp, by simpa using hd⟩
  · rw [State.chan_elementOn]
    exact .inr ⟨⟨hl, hs⟩, .inl (Channel.withElement_phase _ _), Channel.withElement_deadline_isUnitCount _ _⟩

/-- A deadline set now lies ahead (41_unit_timing.md R123, R125). -/
theorem not_expired_deadlineAt {k : Nat} {w : Byte} (hk : IsUnitCount k) (hw : w ≠ 0x00#8) (now : Word) :
    expired now (deadlineAt k w now) = false := by
  have hmin := five_le_dur hk hw
  have hmax := dur_le_8400 hk hw
  have hnow : now = BitVec.ofNat 32 now.toNat := by simp
  rw [hnow, deadlineAt_ofNat]
  exact not_expired_of_lt (by omega) (by omega)

end

/-- Settles O26: a TICK does something only on a running channel, and in a timed phase only at its deadline. -/
theorem earlyTickChangesNothing : Obligations.EarlyTickChangesNothing := by
  intro c s hearly
  obtain hh | hn | hs | ⟨hp, he⟩ := hearly
  · exact execTick_notRunning fun hr => by simp [hr.1.1] at hh
  · exact execTick_notRunning fun hr => by simp [hr.1.2] at hn
  · exact execTick_notRunning fun hr => by simp [hr.2] at hs
  · by_cases hr : s.Running c
    · exact execTick_early hr hp he
    · exact execTick_notRunning hr

/-- Settles O32: a TICK that changes something leaves the channel idle or in a phase whose deadline is at least 5 ms ahead. -/
theorem secondTickAtOneTimeChangesNothing : Obligations.SecondTickAtOneTimeChangesNothing := by
  intro c s t hi h
  obtain rfl | hidle | ⟨hr, hp, k, hk, hd⟩ := execTick_settled h
  · exact h
  · exact execTick_notRunning fun hr => by simp [hr.2] at hidle
  · refine earlyTickChangesNothing c t (.inr (.inr (.inr ⟨hp, ?_⟩)))
    rw [hd, (execTick_sameOutside h).nowMs]
    exact not_expired_deadlineAt hk ((hi.chan c).wpm_pos hr.1.2) _

/-! ## No step stops -/

/-- TICK in a sound state: no phase is GAP_PENDING, and AWAIT reads addresses of the store only. -/
theorem execTick_answers {s : State} (hi : s.Inv) (c : Slot) : ∃ t, execTick c s = .next t := by
  by_cases hr : s.Running c
  · cases hp : (s.chan c).phase with
    | await =>
      obtain ⟨-, hdepth, -⟩ := hi.params
      rw [execTick_await hr hp]
      exact awaitChars_answers (hi.chan c).char_le (hi.chan c).len_le hdepth
    | elemOn =>
      cases he : expired s.nowMs (s.chan c).deadline with
      | false => exact ⟨s, execTick_early hr (.inl hp) he⟩
      | true => exact ⟨_, execTick_elementOver hr hp he⟩
    | gapPending => exact absurd hp (hi.chan c).not_pending
    | gapActive =>
      cases he : expired s.nowMs (s.chan c).deadline with
      | false => exact ⟨s, execTick_early hr (.inr hp) he⟩
      | true =>
        obtain ⟨t, ht, -⟩ := execTick_leaves_gap hi hr hp he
        exact ⟨t, ht⟩
  · exact ⟨s, execTick_notRunning hr⟩

/-- Settles O30: `execTick_answers`, phase by phase. -/
theorem tickNeverStops : Obligations.TickNeverStops := fun c _ hi => execTick_answers hi c

/-- Every command answers a next state in a sound state; but for TICK it does so in every state. -/
theorem exec_answers {s : State} (hi : s.Inv) (i : Instr) : ∃ t, exec i s = .next t := by
  have gated {c : Slot} (hc : gateOf i = some c) (live : s.Live c → ∃ t, exec i s = .next t) : ∃ t, exec i s = .next t := by
    cases hign : s.ignores c with
    | true => exact ⟨_, exec_ignored hc hign⟩
    | false => exact live (State.ignores_eq_false.1 hign)
  cases i with
  | configure kind id wpm =>
    cases hh : s.halted with
    | true => exact ⟨s, execConfigure_halted hh kind id wpm⟩
    | false => exact ⟨_, execConfigure_eq hh kind id wpm⟩
  | setWpm c wpm =>
    refine gated rfl fun hl => ?_
    by_cases hw : wpm = 0x00#8
    · exact ⟨_, exec_fatal hl.1 (by simp [fatalCause, hl.2, hw])⟩
    · exact ⟨_, execSetWpm_eq hl hw⟩
  | msgWrite c addr data =>
    refine gated rfl fun hl => ?_
    by_cases ha : addr.toNat < s.params.msgDepth
    · cases hs : (s.chan c).sending with
      | true => exact ⟨s, execMsgWrite_busy ha hs data⟩
      | false => exact ⟨_, execMsgWrite_eq hl hs ha data⟩
    · exact ⟨_, execMsgWrite_outside (not_lt.1 ha) data⟩
  | submit c n =>
    refine gated rfl fun hl => ?_
    by_cases hn : n.toNat ≤ s.params.msgDepth
    · cases hs : (s.chan c).sending with
      | true => exact ⟨s, execSubmit_busy hn hs⟩
      | false => exact ⟨_, execSubmit_eq hl hs hn⟩
    · exact ⟨_, execSubmit_tooLong (not_le.1 hn)⟩
  | tick c => exact execTick_answers hi c
  | stop c => exact gated rfl fun hl => ⟨_, execStop_eq hl⟩
  | isSending c => exact ⟨_, execIsSending_eq c s⟩
  | readStatus => exact ⟨_, execReadStatus_eq s⟩

/-- Settles O53: the four kinds of step; a command is executed in the accepted state, which is sound. -/
theorem soundStatesNeverStop : Obligations.SoundStatesNeverStop := by
  intro s hi
  cases hin : s.inputs with
  | nil => exact ⟨_, step_waiting hin⟩
  | cons input rest =>
    cases input with
    | reset => exact ⟨_, step_resetInput hin⟩
    | command word now =>
      cases hdec : decode s.params word with
      | error e => exact ⟨_, step_illegal hin hdec⟩
      | ok i =>
        rw [step_command hin hdec]
        exact exec_answers (hi.accept now rest) i

end Sys2Proof.Machine

/-! TICK (42_automaton.md R160 to R164): the end of an element, and a run of control characters. -/

namespace Sys2Proof.Machine

/-! ## The end of an element -/

/-- Settles O27: gap_pending, as `Channel.withGap` says. -/
theorem tickEndsAnElement : Obligations.TickEndsAnElement := by
  intro c s hr hp he ch k
  have hout := s.gapPending_sameOutside c s.nowMs
  refine ⟨_, execTick_elementOver hr hp he, ?_, s.gapPending_evts c s.nowMs, s.gapPending_rsp c s.nowMs, hout,
    hout.sameMemory (by rw [State.chan_gapPending, Channel.withGap_msg])⟩
  rw [State.chan_gapPending]
  simp only [Channel.withGap, Channel.gapUnits, Bool.or_eq_true]
  rfl

/-! ## A run of control characters -/

theorem backticks_zero (s : State) (c : Slot) (a : Nat) : backticks s c a 0 = 0 := rfl

theorem backticks_succ (s : State) (c : Slot) (a n : Nat) :
    backticks s c a (n + 1) = backticks s c a n + if s.byteAt c (a + n) = backtick then 1 else 0 := by
  simp [backticks, List.range_succ]

/-- One more backtick inverts the parity. -/
theorem decide_odd_add_ite (n : Nat) (q : Prop) [Decidable q] :
    decide ((n + if q then 1 else 0) % 2 = 1) = (decide (n % 2 = 1) ^^ decide q) := by
  by_cases hq : q
  · obtain h | h := Nat.mod_two_eq_zero_or_one n <;> simp [hq, Nat.add_mod, h]
  · simp [hq]

section
variable {c : Slot} {s : State} {now : Word}

/-- A control character is consumed, and a backtick inverts digraph mode (42_automaton.md R162). -/
theorem awaitChars_control_eq (hne : (s.chan c).charIndex ≠ (s.chan c).len)
    (hd : (s.chan c).charIndex.toNat < s.params.msgDepth)
    (hb : isControl (s.byteAt c (s.chan c).charIndex.toNat) = true) :
    awaitChars c now s = awaitChars c now (s.mapChan c (Channel.consumed 1
      ((s.chan c).digraph ^^ decide (s.byteAt c (s.chan c).charIndex.toNat = backtick)))) := by
  have hb : s.byteAt c (s.chan c).charIndex.toNat = tilde ∨ s.byteAt c (s.chan c).charIndex.toNat = backtick := by
    simpa [isControl] using hb
  obtain hb | hb := hb
  · rw [awaitChars_tilde hne hd hb, hb]
    have hdg : ((s.chan c).digraph ^^ decide (tilde = backtick)) = (s.chan c).digraph := by simp [tilde, backtick]
    rw [hdg]
    rfl
  · rw [awaitChars_backtick hne hd hb, hb]
    have hdg : ((s.chan c).digraph ^^ decide (backtick = backtick)) = !(s.chan c).digraph := by simp
    rw [hdg]
    rfl

/-- The state of AWAIT after k control characters. -/
def State.afterControls (s : State) (c : Slot) (k : Nat) : State :=
  s.mapChan c (Channel.consumed k
    ((s.chan c).digraph ^^ decide (backticks s c (s.chan c).charIndex.toNat k % 2 = 1)))

theorem State.chan_afterControls (s : State) (c : Slot) (k : Nat) :
    (s.afterControls c k).chan c = { s.chan c with
      charIndex := (s.chan c).charIndex + BitVec.ofNat 9 k
      digraph := (s.chan c).digraph ^^ decide (backticks s c (s.chan c).charIndex.toNat k % 2 = 1) } :=
  s.chan_mapChan c _

theorem State.afterControls_sameOutside (s : State) (c : Slot) (k : Nat) : SameOutside c s (s.afterControls c k) :=
  SameOutside.mapChan c s _

theorem State.afterControls_byteAt (s : State) (c : Slot) (k a : Nat) : (s.afterControls c k).byteAt c a = s.byteAt c a :=
  (s.afterControls_sameOutside c k).sameMemory (by rw [State.chan_afterControls]) c a

theorem State.afterControls_charIndex {k : Nat} (hk : (s.chan c).charIndex.toNat + k ≤ (s.chan c).len.toNat) :
    ((s.afterControls c k).chan c).charIndex.toNat = (s.chan c).charIndex.toNat + k := by
  rw [State.chan_afterControls]; exact toNat_charIndex_add hk

theorem State.afterControls_succ (s : State) (c : Slot) (k : Nat) :
    s.afterControls c (k + 1) = (s.afterControls c k).mapChan c (Channel.consumed 1
      (((s.afterControls c k).chan c).digraph ^^
        decide (s.byteAt c ((s.chan c).charIndex.toNat + k) = backtick))) := by
  rw [State.chan_afterControls, State.afterControls, State.afterControls, State.mapChan_mapChan, backticks_succ,
    decide_odd_add_ite]
  congr 1
  funext ch
  simp [Channel.consumed, BitVec.ofNat_add, BitVec.add_assoc]

/-- AWAIT consumes a run of control characters pass by pass (42_automaton.md R161, R162). -/
theorem awaitChars_afterControls (hlen : (s.chan c).len.toNat ≤ s.params.msgDepth) {k : Nat}
    (hk : (s.chan c).charIndex.toNat + k ≤ (s.chan c).len.toNat)
    (hctl : ∀ j < k, isControl (s.byteAt c ((s.chan c).charIndex.toNat + j)) = true) :
    awaitChars c now s = awaitChars c now (s.afterControls c k) := by
  induction k with
  | zero =>
    have hzero : s.afterControls c 0 = s := by
      refine State.ext_chan c ?_ (by simp [State.afterControls]) ?_ ?_ ?_ ?_ ?_ ?_ ?_ ?_ ?_
      · simp [State.chan_afterControls, backticks_zero]
      all_goals simp [State.afterControls]
    rw [hzero]
  | succ k ih =>
    have hindex := State.afterControls_charIndex (s := s) (c := c) (k := k) (by omega)
    have hne : ((s.afterControls c k).chan c).charIndex ≠ ((s.afterControls c k).chan c).len := by
      intro h
      rw [h, State.chan_afterControls] at hindex
      simp only at hindex
      omega
    rw [ih (by omega) fun j hj => hctl j (by omega), State.afterControls_succ]
    have hpass := awaitChars_control_eq (now := now) hne
    rw [hindex, State.afterControls_byteAt, (s.afterControls_sameOutside c k).params] at hpass
    exact hpass (by omega) (hctl k (by omega))

end

/-- A loaded character begins with its first element (42_automaton.md R162, R163). -/
theorem Channel.withPattern_withElement (ch : Channel) (p : Byte) (now : Word) :
    (ch.withPattern p now).withElement now = { ch with
      pattern := p, bitIndex := 0#3, phase := .elemOn, actOn := if p = wordSpace then ch.actOn else true
      deadline := deadlineAt (if p = wordSpace then 7 else if p.getLsbD 0 = true then 3 else 1) ch.wpm now } := by
  by_cases hspace : p = wordSpace
  · simp [Channel.withElement, Channel.withPattern, hspace]
  · simp [Channel.withElement, Channel.withPattern, hspace, Channel.toneUnits, elem]

/-- Settles O33: the run is consumed (`awaitChars_afterControls`), and the next pass loads a character or ends the message. -/
theorem oneTickConsumesAControlRun : Obligations.OneTickConsumesAControlRun := by
  intro c s k hr hp ch a b p hlen hctl
  let u := s.afterControls c k
  have hout := s.afterControls_sameOutside c k
  have hmem : SameMemory s u := hout.sameMemory (by rw [State.chan_afterControls])
  have htick (hk : a + k ≤ ch.len.toNat) : exec (.tick c) s = awaitChars c s.nowMs u :=
    (execTick_await hr hp).trans (awaitChars_afterControls hlen hk hctl)
  have hrsp : u.rsp = s.rsp := s.mapChan_rsp c _
  have hevts : u.evts = s.evts := s.mapChan_evts c _
  have hulen : (u.chan c).len = ch.len := by rw [State.chan_afterControls]
  refine ⟨fun hk hb => ?_, fun hk => ?_⟩
  · have hindex : (u.chan c).charIndex.toNat = a + k := State.afterControls_charIndex hk.le
    have hbyte : u.byteAt c (u.chan c).charIndex.toNat = b := by rw [hindex]; exact hmem c _
    have hplain : b ≠ tilde ∧ b ≠ backtick := by simpa [isControl] using hb
    have hload : awaitChars c s.nowMs u = .next (u.loadChar c b s.nowMs) := by
      rw [← hbyte] at hplain ⊢
      refine awaitChars_load (fun h => ?_) ?_ hplain.1 hplain.2
      · rw [h, hulen] at hindex; omega
      · rw [hindex, hout.params]; omega
    have hnf : romRead u.params.notFoundCode b = p := by rw [hout.params]
    have hcount : (s.chan c).charIndex + BitVec.ofNat 9 k = BitVec.ofNat 9 (a + k) := by
      rw [BitVec.ofNat_add, BitVec.ofNat_toNat, BitVec.setWidth_eq]
    refine ⟨_, (htick hk.le).trans hload, ?_, ?_, ?_, hout.trans (u.loadChar_sameOutside c b s.nowMs), fun d x =>
      (u.loadChar_sameMemory c b s.nowMs d x).trans (hmem d x)⟩
    · rw [State.chan_loadChar, hnf, Channel.withPattern_withElement, State.chan_afterControls, hcount]
      rfl
    · rw [State.loadChar_evts, hnf, State.chan_afterControls, hevts]
      rfl
    · rw [State.loadChar_rsp, hrsp]
  · have hend : (u.chan c).charIndex = (u.chan c).len := by
      refine BitVec.eq_of_toNat_eq ?_
      rw [State.afterControls_charIndex hk.le, hulen]; exact hk
    refine ⟨_, (htick hk.le).trans (awaitChars_end hend), ?_, hout.trans (SameOutside.mapChan c u _), ?_, fun d x =>
      (u.goIdle_sameMemory c d x).trans (hmem d x)⟩
    · rw [State.chan_mapChan, State.chan_afterControls]; rfl
    · exact ⟨(u.mapChan_rsp c _).trans hrsp, (u.mapChan_evts c _).trans hevts⟩

end Sys2Proof.Machine

/-! Digraph mode (42_automaton.md R168), and the elements of a character and of a space, sent with every TICK at its deadline. -/

namespace Sys2Proof.Machine

/-! ## Digraph mode (42_automaton.md R168) -/

/-- The state with digraph mode of channel c at d. -/
def State.withDigraph (s : State) (c : Slot) (d : Bool) : State := s.setChan c { s.chan c with digraph := d }

/-- Two states that agree outside channel c, in the registers of channel c, and at the ports are one. -/
theorem State.eq_of_sameOutside {c : Slot} {s t u : State} (ht : SameOutside c s t) (hu : SameOutside c s u)
    (hc : t.chan c = u.chan c) (hrsp : t.rsp = u.rsp) (hevts : t.evts = u.evts) : t = u :=
  State.ext_chan c hc (ht.other.trans hu.other.symm) (ht.halted.trans hu.halted.symm) (ht.cause.trans hu.cause.symm)
    (ht.ill.trans hu.ill.symm) hrsp hevts (ht.nowMs.trans hu.nowMs.symm) (ht.inputs.trans hu.inputs.symm)
    (ht.resets.trans hu.resets.symm) (ht.params.trans hu.params.symm)

section
variable (s : State) (c : Slot) (d : Bool) (now : Word)

@[simp] theorem State.chan_withDigraph : (s.withDigraph c d).chan c = { s.chan c with digraph := d } := s.chan_setChan c _
@[simp] theorem State.withDigraph_rsp : (s.withDigraph c d).rsp = s.rsp := s.setChan_rsp c _
@[simp] theorem State.withDigraph_evts : (s.withDigraph c d).evts = s.evts := s.setChan_evts c _
@[simp] theorem State.withDigraph_params : (s.withDigraph c d).params = s.params := s.setChan_params c _
@[simp] theorem State.withDigraph_halted : (s.withDigraph c d).halted = s.halted := s.setChan_halted c _
@[simp] theorem State.withDigraph_nowMs : (s.withDigraph c d).nowMs = s.nowMs := s.setChan_nowMs c _
@[simp] theorem State.withDigraph_withDigraph (d' : Bool) : (s.withDigraph c d).withDigraph c d' = s.withDigraph c d' := by
  simp [State.withDigraph]

theorem State.withDigraph_sameOutside : SameOutside c s (s.withDigraph c d) := by
  constructor <;> simp [State.withDigraph]

theorem State.withDigraph_nextByte : (s.withDigraph c d).nextByte c = s.nextByte c := by
  simp [State.nextByte, State.byteAt, State.withDigraph]

/-- A change of channel c's registers that carries digraph mode over to d'. -/
theorem State.mapChan_withDigraph {f : Channel → Channel} {d' : Bool}
    (hf : f { s.chan c with digraph := d } = { f (s.chan c) with digraph := d' }) :
    (s.withDigraph c d).mapChan c f = (s.mapChan c f).withDigraph c d' := by
  simp [State.mapChan, State.withDigraph, hf]

end

section
variable {s t u : State} {c : Slot} {d : Bool} {now : Word}

/-- How to see that an operation inside channel c commutes with a change of digraph mode: from its frame on both sides, what it
does to the channel, and its events. -/
theorem State.commute_withDigraph (ht : SameOutside c s t) (hu : SameOutside c (s.withDigraph c d) u)
    (hc : u.chan c = { t.chan c with digraph := d }) (hrsp : u.rsp = t.rsp) (hevts : u.evts = t.evts) :
    u = t.withDigraph c d := by
  refine State.eq_of_sameOutside ((s.withDigraph_sameOutside c d).trans hu) (ht.trans (t.withDigraph_sameOutside c d)) ?_ ?_ ?_
  · rw [hc, State.chan_withDigraph]
  · rw [hrsp, State.withDigraph_rsp]
  · rw [hevts, State.withDigraph_evts]

theorem Channel.withElement_digraph (ch : Channel) (d : Bool) (now : Word) :
    ({ ch with digraph := d } : Channel).withElement now = { ch.withElement now with digraph := d } := by
  unfold Channel.withElement; split <;> rfl

/-- The events of a request do not depend on digraph mode. -/
theorem requestEvents_digraph (c : Slot) (ch : Channel) (d on : Bool) :
    requestEvents c { ch with digraph := d } on = requestEvents c ch on := rfl

theorem State.elementOn_withDigraph : (s.withDigraph c d).elementOn c now = (s.elementOn c now).withDigraph c d := by
  refine State.commute_withDigraph (s.elementOn_sameOutside c now) (State.elementOn_sameOutside _ c now) ?_ ?_ ?_
  · simp [Channel.withElement_digraph]
  · simp
  · simp [State.elementOn_evts, requestEvents_digraph]

theorem State.loadChar_withDigraph (b : Byte) :
    (s.withDigraph c d).loadChar c b now = (s.loadChar c b now).withDigraph c d := by
  rw [State.loadChar_eq, State.loadChar_eq, State.withDigraph_params, ← State.elementOn_withDigraph]
  rw [State.mapChan_withDigraph s c d rfl]

/-- Where elements remain the gap is of 1 unit in either mode (42_automaton.md R164). -/
theorem State.gapPending_withDigraph (hm : more (s.chan c).pattern ((s.chan c).bitIndex + 1#3) = true) :
    (s.withDigraph c d).gapPending c now = (s.gapPending c now).withDigraph c d := by
  refine State.commute_withDigraph (s.gapPending_sameOutside c now) (State.gapPending_sameOutside _ c now) ?_ ?_ ?_
  · simp [Channel.withGap, Channel.gapUnits, hm]
  · simp
  · simp [State.gapPending_evts, requestEvents_digraph]

end

/-- A meaning whose outcome on a state, but for digraph mode itself, does not depend on digraph mode. -/
def DigraphBlindAt (c : Slot) (run : State → Result) (s : State) : Prop :=
  ∀ d, mapNext (fun t => t.withDigraph c false) (run (s.withDigraph c d)) = mapNext (fun t => t.withDigraph c false) (run s)

section
variable {c : Slot} {now : Word}

/-- AWAIT inverts the mode at a backtick whatever it is, and reads it nowhere. -/
theorem awaitRun_digraphBlind (left : Nat) : ∀ s, DigraphBlindAt c (awaitRun c now left) s := by
  induction left with
  | zero =>
    intro s d
    simp only [awaitRun, mapNext_next]
    rw [State.mapChan_withDigraph s c d (d' := false) rfl, State.withDigraph_withDigraph]
  | succ left ih =>
    intro s d
    simp only [awaitRun, State.withDigraph_nextByte]
    cases s.nextByte c with
    | none => rfl
    | some b =>
      by_cases ht : b = tilde
      · simp only [if_pos ht]
        rw [State.mapChan_withDigraph s c d (d' := d) rfl]
        exact ih _ d
      · by_cases hb : b = backtick
        · simp only [if_neg ht, if_pos hb]
          rw [State.mapChan_withDigraph s c d (d' := !d) rfl]
          exact ih _ (!d)
        · simp only [if_neg ht, if_neg hb, mapNext_next, State.loadChar_withDigraph, State.withDigraph_withDigraph]

theorem awaitChars_digraphBlind (s : State) : DigraphBlindAt c (awaitChars c now) s := by
  intro d
  simp only [awaitChars, State.chan_withDigraph]
  exact awaitRun_digraphBlind _ s d

/-- TICK reads digraph mode at the end of a character's last element only. -/
theorem execTick_digraphBlind {s : State}
    (hlast : ¬((s.chan c).phase = .elemOn ∧ more (s.chan c).pattern ((s.chan c).bitIndex + 1#3) = false)) :
    DigraphBlindAt c (execTick c) s := by
  intro d
  by_cases hr : s.Running c
  · have hr' : (s.withDigraph c d).Running c := by simpa [State.Running, State.Live] using hr
    rw [execTick_eq hr.1 hr.2, execTick_eq hr'.1 hr'.2]
    simp only [State.chan_withDigraph, State.withDigraph_nowMs]
    cases hp : (s.chan c).phase with
    | await => exact awaitChars_digraphBlind s d
    | elemOn =>
      have hm : more (s.chan c).pattern ((s.chan c).bitIndex + 1#3) = true := by simpa [hp] using hlast
      cases expired s.nowMs (s.chan c).deadline <;> simp [State.gapPending_withDigraph hm]
    | gapPending => rfl
    | gapActive =>
      cases expired s.nowMs (s.chan c).deadline with
      | false => simp
      | true =>
        cases more (s.chan c).pattern (s.chan c).bitIndex with
        | false =>
          simp only [if_true, Bool.true_eq_false, if_false]
          rw [State.mapChan_withDigraph s c d (d' := d) rfl]
          exact awaitChars_digraphBlind _ d
        | true => simp [State.elementOn_withDigraph]
  · have hr' : ¬(s.withDigraph c d).Running c := by simpa [State.Running, State.Live] using hr
    rw [execTick_notRunning hr, execTick_notRunning hr', mapNext_next, State.withDigraph_withDigraph, mapNext_next]

end

/-- Settles O35: TICK is blind to the mode but at the last element, whose gap `execTick_elementOver_deadline` gives. -/
theorem digraphChoosesOnlyTheLastGap : Obligations.DigraphChoosesOnlyTheLastGap := by
  intro c s last erase
  refine ⟨fun hlast d => execTick_digraphBlind hlast d, fun hlast hr he => ?_⟩
  obtain ⟨t, ht, hd⟩ := execTick_elementOver_deadline hr hlast.1 he
  refine ⟨t, ht, hd.trans ?_⟩
  simp [deadlineAt, hlast.2]

/-! ## TICKs at every deadline -/

section
variable {c : Slot} {s t : State}

/-- One more TICK, at the deadline it finds. -/
theorem promptTicks_succ {k : Nat} (h : promptTicks c s k = .next t) :
    promptTicks c s (k + 1) = execTick c (t.withNow (t.chan c).deadline) := by
  rw [promptTicks, h]; rfl

/-- A TICK that keeps the channel's two registers keeps it running. -/
theorem State.Running.of_sameOutside (hr : s.Running c) (ho : SameOutside c s t)
    (hconf : (t.chan c).configured = (s.chan c).configured) (hsend : (t.chan c).sending = (s.chan c).sending) :
    t.Running c := by
  simpa [State.Running, State.Live, ho.halted, hconf, hsend] using hr

/-- Channel c sends element j of the pattern p at the rate w: the tone is on until the deadline that was set now. -/
structure InTone (c : Slot) (p w : Byte) (j : Nat) (t : State) : Prop where
  running : t.Running c
  phase : (t.chan c).phase = .elemOn
  pattern : (t.chan c).pattern = p
  wpm : (t.chan c).wpm = w
  bitIndex : (t.chan c).bitIndex.toNat = j
  actOn : (t.chan c).actOn = true
  deadline : (t.chan c).deadline = deadlineAt (if p.getLsbD j then 3 else 1) w t.nowMs

/-- Channel c is in the gap after j elements of the pattern p at the rate w. -/
structure InGap (c : Slot) (p w : Byte) (j : Nat) (t : State) : Prop where
  running : t.Running c
  phase : (t.chan c).phase = .gapActive
  pattern : (t.chan c).pattern = p
  wpm : (t.chan c).wpm = w
  bitIndex : (t.chan c).bitIndex.toNat = j
  actOn : (t.chan c).actOn = false

variable {p w : Byte} {j : Nat}

/-- The TICK at the deadline ends the tone. -/
theorem InTone.tick (h : InTone c p w j t) (hp : p ≠ wordSpace) (hj : j < 7) :
    ∃ u, execTick c (t.withNow (t.chan c).deadline) = .next u ∧ u.nowMs = (t.chan c).deadline ∧ InGap c p w (j + 1) u := by
  let t' := t.withNow (t.chan c).deadline
  have hch : t'.chan c = t.chan c := t.withNow_chan _ c
  have hr : t'.Running c := h.running.withNow _
  have ho := t'.gapPending_sameOutside c t'.nowMs
  have hgap : (t'.gapPending c t'.nowMs).chan c = (t.chan c).withGap t'.nowMs := by rw [State.chan_gapPending, hch]
  have hnext : ((t.chan c).bitIndex + 1#3).toNat = j + 1 := by
    have := h.bitIndex
    bv_omega
  refine ⟨_, execTick_elementOver hr (by rw [hch]; exact h.phase) (by rw [hch]; exact expired_self _), ho.nowMs,
    hr.of_sameOutside ho ?_ ?_, ?_, ?_, ?_, ?_, ?_⟩
  · rw [hgap, hch]; rfl
  · rw [hgap, hch]; rfl
  · rw [hgap]; rfl
  · rw [hgap]; exact h.pattern
  · rw [hgap]; exact h.wpm
  · rw [hgap]; exact hnext
  · rw [hgap]; exact if_neg (by rw [h.pattern]; exact hp)

/-- The TICK at the gap's deadline begins the next element. -/
theorem InGap.tick (h : InGap c p w j t) (hp : p ≠ 0x00#8) (hj : j < nelem p) :
    ∃ u, execTick c (t.withNow (t.chan c).deadline) = .next u ∧ InTone c p w j u := by
  let t' := t.withNow (t.chan c).deadline
  have hch : t'.chan c = t.chan c := t.withNow_chan _ c
  have hr : t'.Running c := h.running.withNow _
  have ho := t'.elementOn_sameOutside c t'.nowMs
  have hm : more (t'.chan c).pattern (t'.chan c).bitIndex = true := by
    rw [hch, h.pattern, more_iff hp, h.bitIndex]; exact hj
  have htone : (t'.elementOn c t'.nowMs).chan c = { t.chan c with
      phase := .elemOn, deadline := deadlineAt (t.chan c).toneUnits (t.chan c).wpm t'.nowMs, actOn := true } := by
    rw [State.chan_elementOn, Channel.withElement_tone _ (ne_wordSpace_of_more hm), hch]
  refine ⟨_, execTick_gapOver hr (by rw [hch]; exact h.phase) (by rw [hch]; exact expired_self _) hm,
    hr.of_sameOutside ho ?_ ?_, ?_, ?_, ?_, ?_, ?_, ?_⟩
  · rw [htone, hch]
  · rw [htone, hch]
  · rw [htone]
  · rw [htone]; exact h.pattern
  · rw [htone]; exact h.wpm
  · rw [htone]; exact h.bitIndex
  · rw [htone]
  · rw [htone, ho.nowMs]
    simp only [Channel.toneUnits, elem, h.pattern, h.wpm, h.bitIndex]

/-- Two TICKs for each element: the j-th tone begins with the TICK before. -/
theorem promptTicks_inTone (h : InTone c p w 0 s) (hzero : p ≠ 0x00#8) (hspace : p ≠ wordSpace) (hj : j < nelem p) :
    ∃ t, promptTicks c s (2 * j) = .next t ∧ InTone c p w j t := by
  induction j with
  | zero => exact ⟨s, rfl, h⟩
  | succ j ih =>
    have hseven := nelem_le_seven hzero
    obtain ⟨t, ht, htone⟩ := ih (by omega)
    obtain ⟨u, hu, -, hgap⟩ := htone.tick hspace (by omega)
    obtain ⟨v, hv, htone'⟩ := hgap.tick hzero hj
    exact ⟨v, (promptTicks_succ ((promptTicks_succ ht).trans hu)).trans hv, htone'⟩

end

/-- Settles O37: the j-th tone stands after 2 j TICKs (`promptTicks_inTone`), and the next TICK ends it (`InTone.tick`). -/
theorem promptTicksSendEveryElement : Obligations.PromptTicksSendEveryElement := by
  intro c s hi hr hp hb hspace hd j hj
  obtain ⟨hzero, -⟩ := (hi.chan c).in_char (.inl hp)
  have hfirst : InTone c (s.chan c).pattern (s.chan c).wpm 0 s :=
    ⟨hr, hp, rfl, rfl, by rw [hb]; rfl, (hi.chan c).act_iff.2 ⟨hr.2, hp, hspace⟩, hd⟩
  have hseven := nelem_le_seven hzero
  obtain ⟨t, ht, htone⟩ := promptTicks_inTone hfirst hzero hspace hj
  obtain ⟨u, hu, hnow, hgap⟩ := htone.tick hspace (by omega)
  exact ⟨t, u, ht, (promptTicks_succ ht).trans hu, htone.actOn, htone.pattern, htone.bitIndex, htone.deadline, hnow,
    hgap.actOn⟩

/-- Settles O38: AWAIT loads the word space (`awaitReadsTheNextCharacter`), and its end is that of an element
(`tickEndsAnElement`); both issue events for a tone only. -/
theorem spaceIsASilentHoldAndGap : Obligations.SpaceIsASilentHoldAndGap := by
  intro c s hr hp hdg hne hd hb hold
  obtain ⟨-, hload⟩ := awaitReadsTheNextCharacter c s hr hp
  obtain ⟨-, -, hload⟩ := hload hne hd
  rw [hb] at hload
  obtain ⟨t, ht, hspace, -, -, ho, -⟩ := hload (by decide) (by decide)
  obtain ⟨hch, hevts⟩ := hspace (romRead_space _)
  have hrun : (t.withNow hold).Running c :=
    (hr.of_sameOutside ho (by rw [hch]) (by rw [hch])).withNow hold
  have hch' : (t.withNow hold).chan c = t.chan c := t.withNow_chan hold c
  have hdl : (t.chan c).deadline = hold := by rw [hch]
  obtain ⟨u, hu, huch, huevts, -⟩ := tickEndsAnElement c (t.withNow hold) hrun (by rw [hch', hch])
    (by rw [hch', hdl]; exact expired_self hold)
  rw [hch', hch, romRead_space] at huch huevts
  have hprompt : promptTicks c t 1 = .next u := by
    refine (promptTicks_succ (k := 0) rfl).trans ?_
    rw [hdl]; exact hu
  refine ⟨t, u, ht, hevts, by rw [hch], by rw [hch], hdl, hprompt, ?_, by rw [huch]; rfl, by rw [huch], ?_⟩
  · rw [huevts, ← hevts]; exact List.append_nil _
  · rw [huch]
    have hmore : more wordSpace 1#3 = false := by decide
    simp [hmore, hdg]

end Sys2Proof.Machine

/-! The whole machine: the frame of every command and the writers of every register (10_state.md sections 2 and 3), the event and
level ports (10_state.md section 7), and the message bytes (20_memory.md section 3). -/

namespace Sys2Proof.Machine

/-! ## The frame of a command -/

/-- What no command writes: the sampled time, the host's further inputs, the count of resets and the parameters. -/
structure SameSurroundings (s t : State) : Prop where
  nowMs : t.nowMs = s.nowMs
  inputs : t.inputs = s.inputs
  resets : t.resets = s.resets
  params : t.params = s.params

theorem SameOutside.sameSurroundings {c : Slot} {s t : State} (h : SameOutside c s t) : SameSurroundings s t :=
  ⟨h.nowMs, h.inputs, h.resets, h.params⟩

section
variable {i : Instr} {s t : State}

/-- Where a command can write: to its channel and the ports, or to the error registers, or to the response alone. -/
theorem exec_frame_cases (h : exec i s = .next t) :
    (∃ c, slotOf i = some c ∧ SameOutside c s t) ∨ (∃ code, t = s.raiseFatal code) ∨ t = s.raiseIllegal ∨
      ∃ v, t = s.respond v := by
  cases i with
  | configure kind id wpm =>
    obtain ⟨hh, rfl⟩ | ⟨-, code, -, rfl⟩ | ⟨-, -, c, hc, -, rfl⟩ := execConfigure_cases h
    · exact .inr (.inr (.inl (State.raiseIllegal_of_halted hh).symm))
    · exact .inr (.inl ⟨code, rfl⟩)
    · exact .inl ⟨c, hc, SameOutside.mapChan _ _ _⟩
  | setWpm c wpm =>
    obtain rfl | ⟨-, -, rfl⟩ | ⟨-, -, rfl⟩ := execSetWpm_cases h
    · exact .inl ⟨c, rfl, SameOutside.refl _ _⟩
    · exact .inr (.inl ⟨_, rfl⟩)
    · exact .inl ⟨c, rfl, SameOutside.mapChan _ _ _⟩
  | msgWrite c addr data =>
    obtain rfl | ⟨-, rfl⟩ | ⟨-, -, -, rfl⟩ := execMsgWrite_cases h
    · exact .inl ⟨c, rfl, SameOutside.refl _ _⟩
    · exact .inr (.inr (.inl rfl))
    · exact .inl ⟨c, rfl, State.memWrite_sameOutside _ _ _ _⟩
  | submit c n =>
    obtain rfl | ⟨-, rfl⟩ | ⟨-, -, -, rfl⟩ := execSubmit_cases h
    · exact .inl ⟨c, rfl, SameOutside.refl _ _⟩
    · exact .inr (.inr (.inl rfl))
    · exact .inl ⟨c, rfl, SameOutside.mapChan _ _ _⟩
  | tick c => exact .inl ⟨c, rfl, execTick_sameOutside h⟩
  | stop c =>
    obtain rfl | ⟨-, -, rfl⟩ | ⟨-, -, rfl⟩ := execStop_cases h
    · exact .inl ⟨c, rfl, SameOutside.refl _ _⟩
    · exact .inl ⟨c, rfl, SameOutside.mapChan _ _ _⟩
    · exact .inl ⟨c, rfl, (SameOutside.mapChan _ _ _).trans (State.drive_sameOutside _ _ _)⟩
  | isSending c => cases h; exact .inr (.inr (.inr ⟨_, rfl⟩))
  | readStatus => cases h; exact .inr (.inr (.inr ⟨_, rfl⟩))

theorem exec_sameSurroundings (h : exec i s = .next t) : SameSurroundings s t := by
  obtain ⟨c, -, ho⟩ | ⟨code, rfl⟩ | rfl | ⟨v, rfl⟩ := exec_frame_cases h
  · exact ho.sameSurroundings
  · exact ⟨rfl, rfl, rfl, rfl⟩
  · exact ⟨s.raiseIllegal_nowMs, s.raiseIllegal_inputs, s.raiseIllegal_resets, s.raiseIllegal_params⟩
  · exact ⟨rfl, rfl, rfl, rfl⟩

/-- A command leaves every channel alone but the one it is addressed to (20_memory.md R61). -/
theorem exec_chan_of_slotOf_ne {d : Slot} (h : exec i s = .next t) (hd : slotOf i ≠ some d) : t.chan d = s.chan d := by
  obtain ⟨c, hc, ho⟩ | ⟨code, rfl⟩ | rfl | ⟨v, rfl⟩ := exec_frame_cases h
  · obtain rfl | rfl := eq_or_eq_otherSlot c d
    · exact absurd hc hd
    · exact ho.other
  · exact s.chan_raiseFatal code d
  · exact s.chan_raiseIllegal d
  · exact s.chan_respond v d

end

/-! ## What TICK keeps of its channel -/

@[simp] theorem Channel.withElement_id (ch : Channel) (now : Word) : (ch.withElement now).id = ch.id := by
  unfold Channel.withElement; split <;> rfl

/-- The registers of channel c that TICK does not write, and the response; TICK begins no transmission. -/
structure TickKeeps (c : Slot) (s t : State) : Prop where
  configured : (t.chan c).configured = (s.chan c).configured
  id : (t.chan c).id = (s.chan c).id
  wpm : (t.chan c).wpm = (s.chan c).wpm
  len : (t.chan c).len = (s.chan c).len
  msg : (t.chan c).msg = (s.chan c).msg
  sending : (t.chan c).sending = true → (s.chan c).sending = true
  rsp : t.rsp = s.rsp

/-- The events of a TICK or a STOP: none, or those of one request to the level that the channel then has. -/
def RequestedEvents (c : Slot) (s t : State) : Prop :=
  t.evts = s.evts ∨ t.evts = s.evts ++ requestEvents c (s.chan c) (t.chan c).actOn

section
variable {c : Slot} {s t : State} {now : Word}

theorem awaitChars_keeps (h : awaitChars c now s = .next t) : TickKeeps c s t := by
  obtain ⟨-, -, hrsp, hmsg, hid, hwpm, hconf, hlen, hend⟩ := awaitChars_next h
  refine ⟨hconf, hid, hwpm, hlen, hmsg, fun hs => ?_, hrsp⟩
  obtain ⟨hidle, -⟩ | ⟨hsend, -⟩ := hend
  · rw [hs] at hidle; cases hidle
  · rw [← hsend, hs]

theorem awaitChars_requestedEvents (h : awaitChars c now s = .next t) : RequestedEvents c s t := by
  obtain ⟨-, -, -, -, -, -, -, -, ⟨-, hevts, -⟩ | ⟨-, -, -, ⟨hevts, -⟩ | ⟨hevts, hon⟩⟩⟩ := awaitChars_next h
  · exact .inl hevts
  · exact .inl hevts
  · exact .inr (by rw [hon]; exact hevts)

theorem execTick_keeps (h : execTick c s = .next t) : TickKeeps c s t := by
  obtain rfl | ⟨-, -, ⟨-, hw⟩ | ⟨-, -, rfl⟩ | ⟨-, -, -, hw⟩ | ⟨-, -, -, rfl⟩⟩ := execTick_cases h
  · exact ⟨rfl, rfl, rfl, rfl, rfl, fun hs => hs, rfl⟩
  · exact awaitChars_keeps hw
  · refine ⟨?_, ?_, ?_, ?_, ?_, fun hs => by simpa [Channel.withGap] using hs, State.gapPending_rsp _ _ _⟩ <;>
      simp [Channel.withGap]
  · obtain ⟨hconf, hid, hwpm, hlen, hmsg, hsend, hrsp⟩ := awaitChars_keeps hw
    simp only [State.chan_mapChan, State.mapChan_rsp] at *
    exact ⟨hconf, hid, hwpm, hlen, hmsg, hsend, hrsp⟩
  · refine ⟨?_, ?_, ?_, ?_, ?_, fun hs => by simpa using hs, State.elementOn_rsp _ _ _⟩ <;> simp

theorem execTick_requestedEvents (h : execTick c s = .next t) : RequestedEvents c s t := by
  obtain rfl | ⟨-, -, ⟨-, hw⟩ | ⟨-, -, rfl⟩ | ⟨-, -, -, hw⟩ | ⟨-, -, hm, rfl⟩⟩ := execTick_cases h
  · exact .inl rfl
  · exact awaitChars_requestedEvents hw
  · by_cases hspace : (s.chan c).pattern = wordSpace
    · exact .inl (by simp [State.gapPending_evts, hspace])
    · exact .inr (by simp [State.gapPending_evts, hspace, Channel.withGap])
  · have hreq := awaitChars_requestedEvents hw
    simpa [RequestedEvents, requestEvents] using hreq
  · have htone := ne_wordSpace_of_more hm
    exact .inr (by simp [State.elementOn_evts, htone, Channel.withElement_tone])

theorem execStop_requestedEvents (h : execStop c s = .next t) : RequestedEvents c s t := by
  obtain rfl | ⟨-, -, rfl⟩ | ⟨-, -, rfl⟩ := execStop_cases h
  · exact .inl rfl
  · exact .inl (s.mapChan_evts c _)
  · exact .inr (by simp [requestEvents])

end

/-! ## The events of a step -/

section
variable {i : Instr} {s t : State}

/-- Only TICK and STOP issue events (43_channel_adapter.md R195). -/
theorem exec_evts_cases (h : exec i s = .next t) :
    t.evts = s.evts ∨ ∃ c, (i = .tick c ∨ i = .stop c) ∧ (t.chan c).id = (s.chan c).id ∧
      t.evts = s.evts ++ requestEvents c (s.chan c) (t.chan c).actOn := by
  cases i with
  | configure kind id wpm =>
    obtain ⟨-, rfl⟩ | ⟨-, code, -, rfl⟩ | ⟨-, -, c, -, -, rfl⟩ := execConfigure_cases h
    · exact .inl rfl
    · exact .inl rfl
    · exact .inl (s.mapChan_evts c _)
  | setWpm c wpm =>
    obtain rfl | ⟨-, -, rfl⟩ | ⟨-, -, rfl⟩ := execSetWpm_cases h
    · exact .inl rfl
    · exact .inl rfl
    · exact .inl (s.mapChan_evts c _)
  | msgWrite c addr data =>
    obtain rfl | ⟨-, rfl⟩ | ⟨-, -, -, rfl⟩ := execMsgWrite_cases h
    · exact .inl rfl
    · exact .inl s.raiseIllegal_evts
    · exact .inl (s.mapChan_evts c _)
  | submit c n =>
    obtain rfl | ⟨-, rfl⟩ | ⟨-, -, -, rfl⟩ := execSubmit_cases h
    · exact .inl rfl
    · exact .inl s.raiseIllegal_evts
    · exact .inl (s.mapChan_evts c _)
  | tick c =>
    exact (execTick_requestedEvents h).imp_right fun hevts => ⟨c, .inl rfl, (execTick_keeps h).id, hevts⟩
  | stop c =>
    refine (execStop_requestedEvents h).imp_right fun hevts => ⟨c, .inr rfl, ?_, hevts⟩
    obtain rfl | ⟨-, -, rfl⟩ | ⟨-, -, rfl⟩ := execStop_cases h <;> simp
  | isSending c => cases h; exact .inl rfl
  | readStatus => cases h; exact .inl rfl

/-- An event of a request carries the channel's id and the level that was requested (43_channel_adapter.md R196). -/
theorem of_mem_requestEvents {c : Slot} {ch : Channel} {on : Bool} {e : Event} (he : e ∈ requestEvents c ch on) :
    e.id = ch.id ∧ (c = .toggle → e.op = 0#2 ∧ e.level = on) ∧
      (c = .cw → e.level = false ∧ e.op = if on then 1#2 else 2#2) := by
  cases c with
  | toggle =>
    obtain rfl := List.mem_singleton.1 he
    exact ⟨rfl, fun _ => ⟨rfl, rfl⟩, nofun⟩
  | cw =>
    by_cases hsame : on = ch.actOn
    · rw [requestEvents_cw_same hsame] at he; cases he
    · rw [requestEvents_cw_change hsame] at he
      obtain rfl := List.mem_singleton.1 he
      cases on <;> exact ⟨rfl, nofun, fun _ => ⟨rfl, rfl⟩⟩

/-- After every step the events are none or those of one request to the level that its channel then has. -/
theorem step_evts_cases (h : step s = .next t) :
    t.evts = [] ∨ ∃ c ch, ch.id = (t.chan c).id ∧ t.evts = requestEvents c ch (t.chan c).actOn := by
  obtain ⟨-, rfl⟩ | ⟨rest, -, rfl⟩ | ⟨word, now, rest, i, -, -, hexec⟩ | ⟨word, now, rest, e, -, -, rfl⟩ := step_cases h
  · exact .inl rfl
  · exact .inl rfl
  · obtain hevts | ⟨c, -, hid, hevts⟩ := exec_evts_cases hexec
    · exact .inl hevts
    · exact .inr ⟨c, _, hid.symm, hevts⟩
  · exact .inl (State.raiseIllegal_evts _)

end

/-- Settles O47: the events of a step are those of one request (`step_evts_cases`), and `of_mem_requestEvents` reads them. -/
theorem eventAndLevelPortsAgree : Obligations.EventAndLevelPortsAgree := by
  intro s t h
  refine ⟨?_, fun e he => ?_, rfl, rfl, rfl, rfl⟩
  · obtain hnone | ⟨c, ch, -, hevts⟩ := step_evts_cases h
    · simp [hnone]
    · rw [hevts]; exact requestEvents_length_le _ _ _
  · obtain hnone | ⟨c, ch, hid, hevts⟩ := step_evts_cases h
    · rw [hnone] at he; cases he
    · rw [hevts] at he
      obtain ⟨heid, htoggle, hcw⟩ := of_mem_requestEvents he
      exact ⟨c, heid.trans hid, htoggle, hcw⟩

/-! ## The writers of a channel's registers -/

/-- Every register of channel c that differs is one that the command may write. -/
structure ChannelWriters (i : Instr) (c : Slot) (s t : State) : Prop where
  binding : (t.chan c).configured ≠ (s.chan c).configured ∨ (t.chan c).id ≠ (s.chan c).id →
    ∃ kind id wpm, i = .configure kind id wpm ∧ slotOfKind kind = some c
  wpm : (t.chan c).wpm ≠ (s.chan c).wpm →
    (∃ kind id wpm, i = .configure kind id wpm ∧ slotOfKind kind = some c) ∨ ∃ wpm, i = .setWpm c wpm
  len : (t.chan c).len ≠ (s.chan c).len → ∃ n, i = .submit c n
  begins : (t.chan c).sending = true → (s.chan c).sending = false → ∃ n, i = .submit c n
  ends : (t.chan c).sending = false → (s.chan c).sending = true → i = .tick c ∨ i = .stop c
  progress : (t.chan c).charIndex ≠ (s.chan c).charIndex ∨ (t.chan c).bitIndex ≠ (s.chan c).bitIndex ∨
    (t.chan c).pattern ≠ (s.chan c).pattern ∨ (t.chan c).digraph ≠ (s.chan c).digraph ∨
    (t.chan c).phase ≠ (s.chan c).phase → (∃ n, i = .submit c n) ∨ i = .tick c ∨ i = .stop c
  deadline : (t.chan c).deadline ≠ (s.chan c).deadline → (∃ n, i = .submit c n) ∨ i = .tick c
  actOn : (t.chan c).actOn ≠ (s.chan c).actOn → i = .tick c ∨ i = .stop c
  byte : ∀ a, t.byteAt c a ≠ s.byteAt c a → ∃ addr data, i = .msgWrite c addr data ∧ addr.toNat = a

section
variable {i : Instr} {c : Slot} {s t : State}

theorem ChannelWriters.of_chan_eq (i : Instr) (hc : t.chan c = s.chan c) (hr : t.resets = s.resets) :
    ChannelWriters i c s t := by
  have hbyte : ∀ a, t.byteAt c a = s.byteAt c a := State.byteAt_congr (by rw [hc]) hr
  constructor
  case byte => exact fun a ha => absurd (hbyte a) ha
  all_goals simp +contextual [hc]

theorem ChannelWriters.refl (i : Instr) (c : Slot) (s : State) : ChannelWriters i c s s := .of_chan_eq i rfl rfl

theorem ChannelWriters.raiseFatal (code : Cause) : ChannelWriters i c s (s.raiseFatal code) :=
  .of_chan_eq i (s.chan_raiseFatal code c) rfl

theorem ChannelWriters.raiseIllegal : ChannelWriters i c s s.raiseIllegal :=
  .of_chan_eq i (s.chan_raiseIllegal c) s.raiseIllegal_resets

theorem ChannelWriters.configure {kind : BitVec 2} {id wpm : Byte} (hk : slotOfKind kind = some c)
    (h : execConfigure kind id wpm s = .next t) : ChannelWriters (.configure kind id wpm) c s t := by
  obtain ⟨-, rfl⟩ | ⟨-, code, -, rfl⟩ | ⟨-, -, d, hd, -, rfl⟩ := execConfigure_cases h
  · exact .refl _ _ _
  · exact .raiseFatal code
  obtain rfl : c = d := Option.some.inj (hk.symm.trans hd)
  constructor
  case binding => exact fun _ => ⟨_, _, _, rfl, hk⟩
  case wpm => exact fun _ => .inl ⟨_, _, _, rfl, hk⟩
  case byte => exact fun a ha => absurd (State.byteAt_congr (by simp) (by simp) a) ha
  all_goals simp +contextual

theorem ChannelWriters.setWpm {wpm : Byte} (h : execSetWpm c wpm s = .next t) :
    ChannelWriters (.setWpm c wpm) c s t := by
  obtain rfl | ⟨-, -, rfl⟩ | ⟨-, -, rfl⟩ := execSetWpm_cases h
  · exact .refl _ _ _
  · exact .raiseFatal _
  constructor
  case wpm => exact fun _ => .inr ⟨_, rfl⟩
  case byte => exact fun a ha => absurd (State.byteAt_congr (by simp) (by simp) a) ha
  all_goals simp +contextual

theorem ChannelWriters.msgWrite {addr data : Byte} (h : execMsgWrite c addr data s = .next t) :
    ChannelWriters (.msgWrite c addr data) c s t := by
  obtain rfl | ⟨-, rfl⟩ | ⟨-, -, -, rfl⟩ := execMsgWrite_cases h
  · exact .refl _ _ _
  · exact .raiseIllegal
  constructor
  case byte =>
    refine fun a ha => ⟨_, _, rfl, ?_⟩
    by_contra hne
    exact ha (State.byteAt_memWrite_other s c c _ (.inr (Ne.symm hne)))
  all_goals simp +contextual

theorem ChannelWriters.submit {n : BitVec 9} (h : execSubmit c n s = .next t) : ChannelWriters (.submit c n) c s t := by
  obtain rfl | ⟨-, rfl⟩ | ⟨-, -, -, rfl⟩ := execSubmit_cases h
  · exact .refl _ _ _
  · exact .raiseIllegal
  constructor
  case len => exact fun _ => ⟨n, rfl⟩
  case begins => exact fun _ _ => ⟨n, rfl⟩
  case progress => exact fun _ => .inl ⟨n, rfl⟩
  case deadline => exact fun _ => .inl ⟨n, rfl⟩
  case byte => exact fun a ha => absurd (State.byteAt_congr (by simp) (by simp) a) ha
  all_goals simp

theorem ChannelWriters.tick (h : execTick c s = .next t) : ChannelWriters (.tick c) c s t := by
  have hk := execTick_keeps h
  constructor
  case begins => exact fun ht hs => by rw [hk.sending ht] at hs; cases hs
  case ends => exact fun _ _ => .inl rfl
  case progress => exact fun _ => .inr (.inl rfl)
  case deadline => exact fun _ => .inr rfl
  case actOn => exact fun _ => .inl rfl
  case byte => exact fun a ha => absurd (State.byteAt_congr hk.msg (execTick_sameOutside h).resets a) ha
  all_goals simp [hk.configured, hk.id, hk.wpm, hk.len]

/-- STOP leaves the channel as go_idle does but for the actuator. -/
theorem execStop_chan (h : execStop c s = .next t) :
    t = s ∨ ∃ on, t.chan c = { (s.chan c).goIdle with actOn := on } := by
  obtain rfl | ⟨-, -, rfl⟩ | ⟨-, -, rfl⟩ := execStop_cases h
  · exact .inl rfl
  · exact .inr ⟨(s.chan c).actOn, State.chan_mapChan _ _ _⟩
  · exact .inr ⟨false, by rw [State.chan_drive, State.chan_mapChan]⟩

theorem ChannelWriters.stop (h : execStop c s = .next t) : ChannelWriters (.stop c) c s t := by
  have hr : t.resets = s.resets := (exec_sameSurroundings (i := .stop c) h).resets
  obtain rfl | ⟨on, hc⟩ := execStop_chan h
  · exact .refl _ _ _
  constructor
  case ends => exact fun _ _ => .inr rfl
  case progress => exact fun _ => .inr (.inr rfl)
  case actOn => exact fun _ => .inr rfl
  case byte => exact fun a ha => absurd (State.byteAt_congr (by rw [hc]; rfl) hr a) ha
  all_goals simp [hc]

/-- The writers of each channel: those of the channel a command is addressed to, by its meaning, and none for the other. -/
theorem exec_channelWriters (h : exec i s = .next t) (c : Slot) : ChannelWriters i c s t := by
  by_cases hc : slotOf i = some c
  · cases i with
    | configure kind id wpm => exact .configure hc h
    | setWpm d wpm => cases hc; exact .setWpm h
    | msgWrite d addr data => cases hc; exact .msgWrite h
    | submit d n => cases hc; exact .submit h
    | tick d => cases hc; exact .tick h
    | stop d => cases hc; exact .stop h
    | isSending d => cases h; exact .of_chan_eq _ (State.chan_respond _ _ _) rfl
    | readStatus => cases hc
  · exact .of_chan_eq i (exec_chan_of_slotOf_ne h hc) (exec_sameSurroundings h).resets

/-! ## The writers of the global registers and the ports -/

/-- Only CONFIGURE and SET_WPM meet a fatal condition (60_exceptions.md R221). -/
theorem raises_of_fatalCause_ne (hf : fatalCause s i ≠ .none) :
    (∃ kind id wpm, i = .configure kind id wpm) ∨ ∃ c wpm, i = .setWpm c wpm := by
  cases i with
  | configure kind id wpm => exact .inl ⟨_, _, _, rfl⟩
  | setWpm c wpm => exact .inr ⟨_, _, rfl⟩
  | _ => exact absurd rfl hf

/-- Only the two reads answer (10_state.md R41). -/
theorem exec_rsp (h : exec i s = .next t) : t.rsp = s.rsp ∨ (∃ c, i = .isSending c) ∨ i = .readStatus := by
  cases i with
  | configure kind id wpm =>
    obtain ⟨-, rfl⟩ | ⟨-, code, -, rfl⟩ | ⟨-, -, c, -, -, rfl⟩ := execConfigure_cases h <;> simp
  | setWpm c wpm =>
    obtain rfl | ⟨-, -, rfl⟩ | ⟨-, -, rfl⟩ := execSetWpm_cases h <;> simp
  | msgWrite c addr data =>
    obtain rfl | ⟨-, rfl⟩ | ⟨-, -, -, rfl⟩ := execMsgWrite_cases h <;> simp [State.memWrite]
  | submit c n =>
    obtain rfl | ⟨-, rfl⟩ | ⟨-, -, -, rfl⟩ := execSubmit_cases h <;> simp
  | tick c => exact .inl (execTick_keeps h).rsp
  | stop c =>
    obtain rfl | ⟨-, -, rfl⟩ | ⟨-, -, rfl⟩ := execStop_cases h <;> simp
  | isSending c => exact .inr (.inl ⟨c, rfl⟩)
  | readStatus => exact .inr (.inr rfl)

end

/-- Settles O48: the writers of each channel (`exec_channelWriters`), of the error registers (`exec_errors_cases`) and of the
ports, and the surroundings that no command writes. -/
theorem everyRegisterHasItsWriters : Obligations.EveryRegisterHasItsWriters := by
  intro i s t h
  obtain ⟨hnow, hinputs, hresets, hparams⟩ := exec_sameSurroundings h
  refine ⟨fun c => ?_, fun hfatal => ?_, fun hill => ?_, fun hrsp => ?_, fun hevts => ?_, hnow, hinputs, hresets, hparams⟩
  · obtain ⟨binding, wpm, len, begins, ends, progress, deadline, actOn, byte⟩ := exec_channelWriters h c
    exact ⟨binding, wpm, len, begins, ends, progress, deadline, actOn, byte⟩
  · obtain ⟨hhalted, hcause, -⟩ | ⟨-, hf, -⟩ | ⟨-, rfl⟩ := exec_errors_cases h
    · simp [hhalted, hcause] at hfatal
    · exact raises_of_fatalCause_ne hf
    · simp at hfatal
  · obtain ⟨-, -, hsame⟩ | ⟨-, -, rfl⟩ | ⟨hwf, -⟩ := exec_errors_cases h
    · exact absurd hsame hill
    · exact absurd rfl hill
    · exact hwf
  · exact (exec_rsp h).resolve_left hrsp
  · obtain ⟨c, hi, -⟩ := (exec_evts_cases h).resolve_left hevts
    exact ⟨c, hi⟩

/-! ## The message bytes -/

/-- A MSG_WRITE that changes a byte finds the channel idle and writes the folded data. -/
theorem execMsgWrite_changes {c : Slot} {addr data : Byte} {s t : State} (h : execMsgWrite c addr data s = .next t)
    (hne : t.byteAt c addr.toNat ≠ s.byteAt c addr.toNat) :
    (s.chan c).sending = false ∧ t.byteAt c addr.toNat = foldCase data := by
  obtain rfl | ⟨-, rfl⟩ | ⟨-, hs, -, rfl⟩ := execMsgWrite_cases h
  · exact absurd rfl hne
  · exact absurd (State.byteAt_congr (by simp) (by simp) _) hne
  · exact ⟨hs, State.byteAt_memWrite_same _ _ _ _⟩

theorem State.byteAt_accept (s : State) (now : Word) (rest : List HostInput) (c : Slot) (a : Nat) :
    (s.accept now rest).byteAt c a = s.byteAt c a := State.byteAt_congr (by simp) rfl a

/-- Settles O49: of the steps only the execution of a MSG_WRITE changes a byte (`exec_channelWriters`). -/
theorem onlyAnIdleMsgWriteChangesAByte : Obligations.OnlyAnIdleMsgWriteChangesAByte := by
  intro s t hnr h c a hne
  obtain ⟨-, rfl⟩ | ⟨rest, hin, -⟩ | ⟨word, now, rest, i, hin, hdec, hexec⟩ | ⟨word, now, rest, e, -, -, rfl⟩ := step_cases h
  · exact absurd (State.byteAt_congr (by simp) rfl a) hne
  · exact absurd (by rw [hin]; rfl) hnr
  · rw [← s.byteAt_accept now rest] at hne
    obtain ⟨addr, data, rfl, rfl⟩ := (exec_channelWriters hexec c).byte a hne
    obtain ⟨hs, hfold⟩ := execMsgWrite_changes hexec hne
    exact ⟨by simpa using hs, word, now, rest, addr, data, hin, hdec, rfl, hfold⟩
  · exact absurd (State.byteAt_congr (by simp) (by simp) a) hne

end Sys2Proof.Machine
